-- ==== Sys2Proof/Word.lean ====
section
/-! DEFINITION. The words of the CD-42: bytes, meter identities, wrapping counters and the two sets the
part sends as bit positions. Only the types stand here; what is computed with them stands in the
files of `Machine`. -/

namespace Sys2Proof

/-- A byte of a port frame, a post or the configuration block (section 11). -/
abbrev Byte := BitVec 8

/-- A METER-ID, 32 bits (R9). 0 and FFFFFFFFh are invalid. -/
abbrev MeterId := BitVec 32

/-- An event counter: 32 bits, wrapping (Introduction, "Saturation and wrapping"). -/
abbrev Counter := BitVec 32

/-- A set of the five meter flags, one position each (table of section 11.3). -/
abbrev FlagSet := BitVec 5

/-- A set of the twelve findings, one position each (R57, table of section 11.3). -/
abbrev FindingSet := BitVec 12

end Sys2Proof
end

