-- ==== Sys2Proof/Syntax.lean ====
section
/-! DEFINITION. The commands of the CD-42: one constructor for each row of spec/opcode_table.json.
The part has no program; a command is one step of the block, taken whole (spec/95). The table gives
the rows no operand bits, so the operands are what the row's rule says the step takes from outside. -/

namespace Sys2Proof

/-- The two burst ports (section 1.1). -/
inductive Port where
  | a
  | b
  deriving DecidableEq, Repr

/-- The three roles of a station (R74). -/
inductive Role where
  | collector
  | console
  | dock
  deriving DecidableEq, Repr

/-- The hold status of a claim (R98). -/
inductive Hold where
  | claiming
  | held
  deriving DecidableEq, Repr

/-- One entry of a ROUTE-ENTRY post, each field as wide as section 11.4 encodes it. `kr` and `hint`
are absent when their presence bit is clear (R202). -/
structure EntryFields where
  index : BitVec 16
  meter : MeterId
  dr : BitVec 4
  p : BitVec 28
  a : BitVec 20
  c : BitVec 16
  b : BitVec 8
  kr : Option (BitVec 4)
  hint : Option (BitVec 2)
  watch : Bool
  deriving DecidableEq, Repr

/-- The steps of the part, one constructor for each row of spec/opcode_table.json, in its order.
A row named after a kind of post is the reception of a valid post of that kind addressed to this
station, from the row's role where the row names one; `src` is the post's SOURCE. -/
inductive Instr where
  /-- FRAME_COMPLETE (R1): a stretch of a port's line activity. `wait`: the milliseconds that pass before it.
  Frame-valid rises if it was low, `bits` are clocked, first bit first, and with `falls` frame-valid falls; without
  it the frame stays under way, to be gone on with by a later stretch. -/
  | frameComplete (port : Port) (wait : Nat) (bits : List Bool) (falls : Bool)
  /-- TAKE (R7). `port`: the port that acceptance serves. -/
  | take (port : Port)
  /-- IDLE_EXPIRY (R32) of the contact of `meter`. -/
  | idleExpiry (meter : MeterId)
  /-- HOLD_OFF_EXPIRY (R34) of the contact of `meter`. -/
  | holdOffExpiry (meter : MeterId)
  /-- SETTLE_EXPIRY (R107) of the contact of `meter`. -/
  | settleExpiry (meter : MeterId)
  /-- ATTEMPT (R76). `quiet`: the microseconds for which the line has been quiet without a break, counted
  from when starting was last allowed (R79). -/
  | attempt (quiet : Nat)
  /-- POST_SENT (R76): the attempt in progress drove every bit through CHECK. -/
  | postSent
  /-- ATTEMPT_LOST (R77): the attempt in progress met a mismatch. -/
  | attemptLost
  /-- POST_RECEIVED (R87): a stretch of line activity ends, as its whole bytes. -/
  | postReceived (bytes : List Byte)
  /-- CLAIM (R110), from a collector. -/
  | claim (src : BitVec 4) (meter : MeterId) (quality : BitVec 6) (hold : Hold)
  /-- YIELD (R118), from a collector. -/
  | yield (src : BitVec 4) (meter : MeterId)
  /-- STATUS (R88), from a station of any role. -/
  | status (src : BitVec 4) (role : Role)
  /-- ALERT (R88), from a station of any role. -/
  | alert (src : BitVec 4) (role : Role)
  /-- ALERT_ACK (R67), from a console. -/
  | alertAck (src : BitVec 4) (slot : Byte) (seq : BitVec 32)
  /-- ROUTE_BEGIN (R128), from a console. -/
  | routeBegin (src : BitVec 4) (route : BitVec 16) (count : BitVec 16)
  /-- ROUTE_ENTRY (R129), from a console: one to three entries in the order judged. -/
  | routeEntry (src : BitVec 4) (entries : List EntryFields)
  /-- ROUTE_GO (R133), from a console. -/
  | routeGo (src : BitVec 4)
  /-- ROUTE_CLOSE (R137), from a console. -/
  | routeClose (src : BitVec 4)
  /-- WALK_STEP (R138): one step of the close walk. -/
  | walkStep
  /-- PARK (R186), from a console. -/
  | park (src : BitVec 4)
  /-- RUN (R189), from a console. -/
  | run (src : BitVec 4)
  /-- RESET (R197), from a station of role `role`: acted on from a console or a dock. -/
  | reset (src : BitVec 4) (role : Role)
  /-- CONFIG_QUERY (R198), from a station of role `role`: acted on from a console or a dock. -/
  | configQuery (src : BitVec 4) (role : Role)
  /-- COUNT_QUERY (R199), from a station of role `role`: acted on from a console or a dock. -/
  | countQuery (src : BitVec 4) (role : Role) (part : Byte)
  /-- DRAIN_OPEN (R167), from a dock. -/
  | drainOpen (src : BitVec 4)
  /-- COMMIT (R173), from a dock, with the sequence value v. -/
  | commit (src : BitVec 4) (v : BitVec 32)
  /-- DRAIN_CLOSE (R176), from a dock. -/
  | drainClose (src : BitVec 4)
  /-- COMMIT_WAIT_EXPIRY (R172). -/
  | commitWaitExpiry
  /-- DRAIN_POST_OFFER (R169): the drain engine offers its waiting post again. -/
  | drainPostOffer
  /-- PROMOTION (R64). -/
  | promotion
  /-- STATUS_TIMER_EXPIRY (R90). -/
  | statusTimerExpiry
  /-- SILENCE (R97): the silence timer of the peer entry of `station` expires. -/
  | silence (station : BitVec 4)
  /-- IGN_FALLING_EDGE (R186). -/
  | ignFallingEdge
  /-- IGN_RISING_EDGE (R189). -/
  | ignRisingEdge
  /-- WAKE (R187): line activity starts, in any park state (R85). `quiet`: the microseconds of quiet before it. -/
  | wake (quiet : Nat)
  /-- WAKE_SETTLE_EXPIRY (R187). -/
  | wakeSettleExpiry
  /-- PARK_RETURN_EXPIRY (R188). -/
  | parkReturnExpiry
  /-- ENTER_SAG (R182): SENSE falls to `mv` millivolts. -/
  | enterSag (mv : Nat)
  /-- RETURN_TO_NORMAL (R182): SENSE rises to `mv` millivolts. -/
  | returnToNormal (mv : Nat)
  /-- MAIN_SUPPLY_LOSS (R184). `cut`: how many of the last writes of the step before were not completed
  when VMAIN failed (R159, R160); 0 when VMAIN failed between two steps. -/
  | mainSupplyLoss (cut : Nat)
  /-- START_UP (R191): the strap pins, the 32 bytes of the configuration memory (FFh throughout when it is
  missing), the level of IGN and SENSE in millivolts at the end of start-up. -/
  | startUp (straps : BitVec 4) (block : List Byte) (ign : Bool) (mv : Nat)
  /-- BACKUP_SUPPLY_LOSS (R184): VBAK fails; where it has failed already, that failure ends. -/
  | backupSupplyLoss
  deriving DecidableEq, Repr

end Sys2Proof
end

