-- ==== Sys2Proof/Decode.lean ====
section
/-! DEFINITION. The reading of a command from the bits of its table row. spec/opcode_table.json gives
no row any bits (every row's "fields" is empty and none has "fixed"), so no word spells a command. The
bytes of port frames, posts and the configuration block are read in `Machine/Operands.lean`. -/

namespace Sys2Proof

/-- The command that the word `w` of `nbits` bits spells by the table's bits: none, since the table gives
no row any bits. -/
def decodeTableWord (_nbits _w : Nat) : Option Instr := none

end Sys2Proof
end

