-- ==== Sys2Proof/Config.lean ====
section
/-! DEFINITION. The effective configuration: the settings the start-up reader forms at every start-up
(R194, R203). The spec leaves no value of an implementation open, so no constant here is without a body.
The defaults and the part's fixed limits stand in `Machine/Limits.lean`. -/

namespace Sys2Proof

/-- The three settings of a burst port (R2). -/
structure PortSettings where
  /-- ENABLE: on. -/
  enable : Bool
  /-- OVERRUN-POLICY: KEEP-NEWEST when true, KEEP-OLDEST when false. -/
  keepNewest : Bool
  /-- LEVEL-OFFSET, 0–15. -/
  levelOffset : Nat
  deriving DecidableEq, Repr

/-- The settings of R194, in the table's order. -/
structure Settings where
  strayCapture : Bool
  sector : Nat
  portA : PortSettings
  portB : PortSettings
  acceptMask : BitVec 16
  prefixMask : BitVec 32
  prefixValue : BitVec 32
  /-- Chatter window W, seconds. -/
  window : Nat
  /-- Chatter limit M. -/
  limit : Nat
  /-- Idle timeout, seconds. -/
  idleTimeout : Nat
  /-- Claim hold-off, steps of 100 ms. -/
  holdOff : Nat
  /-- Claim settle, steps of 100 ms. -/
  settle : Nat
  /-- Status interval, seconds. -/
  statusInterval : Nat
  /-- Peer silence time, seconds. -/
  peerSilence : Nat
  /-- Alert threshold H. -/
  threshold : Nat
  /-- Stall age S, minutes. -/
  stallAge : Nat
  /-- Commit wait, seconds. -/
  commitWait : Nat
  /-- Park return, seconds. -/
  parkReturn : Nat
  /-- Supply threshold level. -/
  supplyLevel : Nat
  deriving DecidableEq, Repr

end Sys2Proof
end

