-- ==== Sys2Proof/Machine/Limits.lean ====
section
/-! DEFINITION. The fixed limits of the part (Introduction, "Quantities used throughout") and the
default settings of R194. -/

namespace Sys2Proof.Machine

/-- Contacts the contact table holds at most (R20). -/
def contactLimit : Nat := 192

/-- Entries of an arrival ring (R27). -/
def ringLimit : Nat := 8

/-- Slots of a burst port (section 1.1). -/
def portSlotLimit : Nat := 2

/-- Route entries the route table holds at most, and the clamped entry count (R123, R128). -/
def entryLimit : Nat := 2048

/-- Records the capture log holds at most (R153). -/
def logLimit : Nat := 4096

/-- Posts the transmit queue holds at most (R80). -/
def queueLimit : Nat := 16

/-- Records of a drain batch (R165). -/
def batchLimit : Nat := 16

/-- Losses after which a post is discarded (R78). -/
def lossLimit : Nat := 16

/-- Indices listed by a ROUTE-GAP at most (R134). -/
def gapLimit : Nat := 20

/-- The quiet gap, microseconds (R76). -/
def quietGapUs : Nat := 40

/-- The backoff slot, microseconds (R77). -/
def backoffSlotUs : Nat := 16

/-- The wake settle, milliseconds (R185). -/
def wakeSettleMs : Nat := 2

/-- Hysteresis of the supply monitor, millivolts (R182). -/
def hysteresisMv : Nat := 400

/-- The highest SEQUENCE a record can take, FFFFFFFFh (R152). -/
def seqMax : Nat := 4294967295

/-- The largest value of the station clock, 48 bits (R184). -/
def stationClockMax : Nat := 281474976710655

/-- The largest value of the route clock, 32 bits (R127). -/
def routeClockMax : Nat := 4294967295

/-- Saturation of ARRIVALS, of a rate and of the rate ceiling (R21, R47). -/
def max16 : Nat := 65535

/-- Saturation of the elapsed minutes E (R46). -/
def elapsedMax : Nat := 1048575

/-- The value an absent or present 32-bit time in a RECORD stops at (section 11.4). -/
def max32 : Nat := 4294967295

/-- A port with the defaults of R2. -/
def defaultPort : PortSettings :=
  { enable := true, keepNewest := true, levelOffset := 0 }

/-- Every setting at its default (R194). -/
def defaultSettings : Settings :=
  { strayCapture := false, sector := 0, portA := defaultPort, portB := defaultPort,
    acceptMask := 0xFFFF#16, prefixMask := 0#32, prefixValue := 0#32,
    window := 10, limit := 5, idleTimeout := 15, holdOff := 8, settle := 15,
    statusInterval := 4, peerSilence := 12, threshold := 2, stallAge := 0,
    commitWait := 3, parkReturn := 30, supplyLevel := 3 }

end Sys2Proof.Machine
end

