-- ==== Sys2Proof/Machine/State.lean ====
section
/-! DEFINITION. The state of the CD-42 as plain data, in the two memory domains of the Introduction: the
retained domain and the main domain, the two sense pins, the supply, the queue of waiting commands and
the journal of the step's writes (the model's own). -/

namespace Sys2Proof.Machine

/-- A timer: stopped, or running with the milliseconds left before it expires. A running timer with 0
left has run out and waits for its expiry to be taken. -/
abbrev Timer := Option Nat

/-- The route states (section 7.2). -/
inductive RouteState where
  | noRoute
  | loading
  | running
  | closing
  | closed
  deriving DecidableEq, Repr

/-- A claim: the triple station, quality and hold status (R98). -/
structure Claim where
  station : Nat
  quality : Nat
  hold : Hold
  deriving DecidableEq, Repr

/-- STATE of a route entry with its CLAIMANT (R99, R124). PEER-CLAIMING(s) carries the claim
(s, q, CLAIMING), READ-PEER(s) the claim (s, q, HELD), MISSED the claimant as it stood. -/
inductive EntryState where
  | due
  | peerClaiming (station quality : Nat)
  | readHere
  | readPeer (station quality : Nat)
  | missed (claimant : Option Claim)
  deriving DecidableEq, Repr

/-- A route entry (R124). -/
structure RouteEntry where
  index : Nat
  meter : MeterId
  dr : Nat
  p : Nat
  a : Nat
  c : Nat
  b : Nat
  kr : Option Nat
  hint : Option Nat
  watch : Bool
  state : EntryState
  z : Option Nat
  findings : FindingSet
  double : Bool
  deriving DecidableEq, Repr

/-- ADVANCE and RATE, present together (R54, R147). -/
structure Measures where
  advance : Int
  rate : Nat
  deriving DecidableEq, Repr

/-- OPEN-STATE of a record (R146). -/
inductive OpenState where
  | opened
  | closed
  deriving DecidableEq, Repr

/-- DRAIN-MARK of a record (R146). -/
inductive DrainMark where
  | unsent
  | sentInBatch
  deriving DecidableEq, Repr

/-- ALERT-STATE of a record (R61). -/
inductive AlertState where
  | none
  | pending
  | slotted
  | acked
  deriving DecidableEq, Repr

/-- The five marks of a READ record (R149). -/
structure Marks where
  stray : Bool
  reread : Bool
  solo : Bool
  double : Bool
  interrupted : Bool
  deriving DecidableEq, Repr

/-- The fields of a READ record besides the six of R146 (R147). -/
structure ReadFields where
  meter : MeterId
  utility : Nat
  dials : Nat
  reading : Nat
  measures : Option Measures
  flags : FlagSet
  resets : Nat
  quality : Nat
  firstHeard : Nat
  lastHeard : Nat
  arrivals : Nat
  findings : FindingSet
  marks : Marks
  deriving DecidableEq, Repr

/-- The fields of a MISSED record besides the six of R146 (R140, R147): the other meter fields are absent,
ARRIVALS is 0, the findings are empty and the marks are clear. -/
structure MissedFields where
  meter : MeterId
  dials : Nat
  prior : Nat
  resets : Option Nat
  deriving DecidableEq, Repr

/-- The five counts of a ROUTE-END record (R148). -/
structure RouteEndFields where
  readHere : Nat
  readPeer : Nat
  missedListed : Nat
  missedUnlisted : Nat
  withFindings : Nat
  deriving DecidableEq, Repr

/-- KIND of a record with the fields of its kind (R146). -/
inductive RecordBody where
  | read (f : ReadFields)
  | missed (f : MissedFields)
  | routeEnd (f : RouteEndFields)
  deriving DecidableEq, Repr

/-- A record of the capture log (R146). -/
structure Record where
  seq : Nat
  route : Nat
  openState : OpenState
  mark : DrainMark
  alert : AlertState
  body : RecordBody
  deriving DecidableEq, Repr

/-- The retained domain (Introduction, "Memory domains"): kept by VBAK while VMAIN is absent. -/
structure Retained where
  /-- The station clock, milliseconds since the last COLD start, 48 bits. -/
  stationClock : Nat
  /-- The route clock, whole seconds since the last ROUTE-GO, 32 bits (R127). -/
  routeClock : Nat
  /-- The milliseconds of the route clock's second now running (the model's own). -/
  routePhase : Nat
  routeState : RouteState
  routeNumber : Nat
  /-- The clamped entry count (R128). -/
  clampedCount : Nat
  trunc : Bool
  /-- Walk tallies (R137). -/
  listed : Nat
  unlisted : Nat
  /-- The route table, in rising order of index (R123). -/
  entries : List RouteEntry
  /-- The capture log, oldest record first (R150). -/
  log : List Record
  /-- The next-sequence counter, 1 to 4,294,967,296 (R151). -/
  nextSeq : Nat
  /-- The reservation is 1 (R153). -/
  reserved : Bool
  /-- The retention-valid flag (R184). -/
  retentionValid : Bool
  deriving DecidableEq, Repr

/-- A frame record (R1). -/
structure Frame where
  bytes : List Byte
  isExact : Bool
  time : Nat
  deriving DecidableEq, Repr

/-- The ten disposition counters and OVERRUN of a port (R18). -/
structure PortCounters where
  malformedLength : Counter
  checkFailed : Counter
  malformed : Counter
  filtered : Counter
  sagDropped : Counter
  closingDropped : Counter
  strayDropped : Counter
  refusedFull : Counter
  duplicate : Counter
  accepted : Counter
  overrun : Counter
  deriving DecidableEq, Repr

/-- A burst port: its stored frames in take order, at most two, the frame in progress as the bits clocked since
frame-valid rose, first bit first (R1, R6), and its counters (R3, R18). -/
structure PortState where
  slots : List Frame
  receiving : Option (List Bool)
  counters : PortCounters
  deriving DecidableEq, Repr

/-- An entry of an arrival ring (R27). -/
structure RingEntry where
  time : Nat
  counter : Nat
  reading : Nat
  flags : FlagSet
  deriving DecidableEq, Repr

/-- STATE of a contact with the two fields present exactly in one state each (R21): RECORD in HELD and
CEDED-TO in CEDED. -/
inductive ContactState where
  | listening
  | claiming
  | held (record : Nat)
  | ceded (claim : Claim)
  deriving DecidableEq, Repr

/-- A contact with its three timers (R21). -/
structure Contact where
  meter : MeterId
  utility : Nat
  state : ContactState
  firstArrival : Nat
  lastArrival : Nat
  bestQuality : Nat
  arrivals : Nat
  ring : List RingEntry
  reading : Nat
  dials : Nat
  resets : Nat
  flags : FlagSet
  findings : FindingSet
  measures : Option Measures
  stray : Bool
  reread : Bool
  noroom : Bool
  solo : Bool
  eligible : Bool
  idlePending : Bool
  idle : Timer
  holdOff : Timer
  settle : Timer
  deriving DecidableEq, Repr

/-- The four alert slots, each empty or holding the sequence of one record (R63). -/
structure Slots where
  s0 : Option Nat
  s1 : Option Nat
  s2 : Option Nat
  s3 : Option Nat
  deriving DecidableEq, Repr

/-- PART of a COUNT-QUERY (R199). -/
inductive Part where
  | portA
  | portB
  | station
  deriving DecidableEq, Repr

/-- The nine kinds of post the part sends, each with the contents composed when it enters the queue
(R75). The contents of STATUS are formed at each attempt (R91). -/
inductive PostBody where
  | alert (slot : Fin 4) (seq : Nat) (meter : MeterId) (findings : FindingSet) (watch : Bool)
      (severity : Nat)
  | claim (meter : MeterId) (quality : Nat) (hold : Hold)
  | yield (meter : MeterId)
  | routeGap (route missing : Nat) (indices : List Nat)
  | configReport (strap : Nat) (isDefault clamped : Bool) (settings : Settings)
  | countReport (part : Part) (counters : List Counter)
  | record (r : Record)
  | batchEnd (count : Nat) (ends : Option (Nat × Nat))
  | status
  deriving DecidableEq, Repr

/-- A post of this station: the stations it addresses and its contents (R74). -/
structure Post where
  mask : BitVec 16
  body : PostBody
  deriving DecidableEq, Repr

/-- The transmitter's current post (R76). -/
structure Current where
  post : Post
  /-- The loss count k. -/
  losses : Nat
  /-- The bytes the attempt in progress drives; absent between attempts. -/
  attempt : Option (List Byte)
  /-- The post was replaced or withdrawn during the attempt in progress (R82, R83). -/
  dropAtLoss : Bool
  deriving DecidableEq, Repr

/-- PRESENCE of a peer (R95). -/
inductive Presence where
  | absent
  | present
  | silent
  deriving DecidableEq, Repr

/-- An entry of the peer table with its silence timer (R95). -/
structure Peer where
  station : Nat
  presence : Presence
  role : Option Role
  silence : Timer
  deriving DecidableEq, Repr

/-- DRAIN-STATE (R165). -/
inductive DrainState where
  | idle
  | sending
  | awaitCommit
  deriving DecidableEq, Repr

/-- DRAIN-POST (R165). -/
inductive DrainPost where
  | none
  | waiting
  | queued
  | current
  deriving DecidableEq, Repr

/-- The drain engine (R165). -/
structure Drain where
  state : DrainState
  dock : Option Nat
  batch : List Nat
  position : Nat
  post : DrainPost
  commitWait : Timer
  deriving DecidableEq, Repr

/-- The supply states (R182). -/
inductive Supply where
  | normal
  | sag
  deriving DecidableEq, Repr

/-- The park states (R185). -/
inductive Park where
  | run
  | parked
  | linkAwake
  deriving DecidableEq, Repr

/-- CAUSE in STATUS (R91). -/
inductive Cause where
  | cold
  | restored
  | stationReset
  deriving DecidableEq, Repr

/-- The main domain: all other state, lost when the main supply fails (Introduction, "Memory domains"). -/
structure Main where
  /-- The strap value, 0–15 (R192). -/
  strap : Nat
  cfg : Settings
  cfgDefault : Bool
  cfgClamped : Bool
  portA : PortState
  portB : PortState
  /-- The contact table, in rising order of METER-ID (R20; the order is the model's). -/
  contacts : List Contact
  slots : Slots
  alertsReleased : Counter
  /-- The transmit queue, in the order of entry (R80). -/
  queue : List Post
  current : Option Current
  linkCheck : Counter
  linkDrop : Counter
  statusTimer : Timer
  mute : Bool
  /-- The peer table: stations 1 to 15 in order (R95). -/
  peers : List Peer
  routeDup : Counter
  routeRefused : Counter
  /-- The next index the close walk visits (R138). -/
  walk : Nat
  drain : Drain
  supply : Supply
  /-- SAG-SEEN (R91). -/
  sagSeen : Bool
  /-- SAG was entered since the latest attempt formed its contents (R91, R183). -/
  sagInAttempt : Bool
  park : Park
  wakeSettle : Timer
  parkReturn : Timer
  cause : Cause
  deriving DecidableEq, Repr

/-- The stretch of activity on the Drive Link's line, as the receiver stands to it (R85). -/
inductive LinkLine where
  /-- No stretch is under way that a command has begun. -/
  | quiet
  /-- One is under way that began after a quiet gap and has found the receiver receptive throughout. -/
  | heard
  /-- One is under way of which the receiver takes no post: it began before the receiver was receptive, it was cut by
  the receiver's stopping, or it began without a quiet gap. -/
  | missed
  deriving DecidableEq, Repr

/-- The inputs that the part follows, as last seen: IGN, SENSE in millivolts, the frame-valid input of each port
(pin summary, R1), and the Drive Link's line (R85). -/
structure Pins where
  ign : Bool
  senseMv : Nat
  frameValidA : Bool
  frameValidB : Bool
  line : LinkLine
  deriving DecidableEq, Repr

/-- The state of the part. -/
structure State where
  /-- The commands that wait, first in, first out. -/
  pending : List Instr
  /-- VMAIN is present and start-up has ended. -/
  powered : Bool
  /-- VBAK is present (R184). -/
  backup : Bool
  pins : Pins
  ret : Retained
  main : Main
  /-- The retained domain as it stood before each write of the latest step, the last write first
  (the model's own, for a loss in the middle of a step: R159, R160). -/
  journal : List Retained
  deriving DecidableEq, Repr

/-- The reasons to stop with a fault: none. No command of this part has an outcome that the spec leaves
without an effect, so no meaning raises a fault (safe: nothing stops). -/
inductive Fault where
  deriving DecidableEq, Repr

/-- The reasons to refuse a command. -/
inductive Refusal where
  /-- Raised by `exec` alone, for a command that has no meaning yet (safe). No arm raises it now. -/
  | notModelled (mnemonic : String)
  deriving DecidableEq, Repr

/-! ## The values after a COLD start -/

/-- Every counter of a port at 0 (R6). -/
def zeroCounters : PortCounters :=
  { malformedLength := 0, checkFailed := 0, malformed := 0, filtered := 0, sagDropped := 0,
    closingDropped := 0, strayDropped := 0, refusedFull := 0, duplicate := 0, accepted := 0,
    overrun := 0 }

/-- A port with empty slots, no frame in progress and its counters at 0 (R6). -/
def freshPort : PortState := { slots := [], receiving := none, counters := zeroCounters }

/-- Four empty slots (R63). -/
def emptySlots : Slots := { s0 := none, s1 := none, s2 := none, s3 := none }

/-- The drain engine after any start or reset (R165). -/
def idleDrain : Drain :=
  { state := .idle, dock := none, batch := [], position := 0, post := .none, commitWait := none }

/-- The retained domain after the clearing of a COLD start (R195), with the retention-valid flag at
`valid`. -/
def clearedRetained (valid : Bool) : Retained :=
  { stationClock := 0, routeClock := 0, routePhase := 0, routeState := .noRoute, routeNumber := 0,
    clampedCount := 0, trunc := false, listed := 0, unlisted := 0, entries := [], log := [],
    nextSeq := 1, reserved := false, retentionValid := valid }

/-- The peer table after any start or reset of a station whose strap value is `strap`: every entry
ABSENT with ROLE absent, and every silence timer but the own-number entry's started (R95). -/
def freshPeers (strap silenceMs : Nat) : List Peer :=
  [1, 2, 3, 4, 5, 6, 7, 8, 9, 10, 11, 12, 13, 14, 15].map fun n =>
    { station := n, presence := .absent, role := none,
      silence := if n = strap then none else some silenceMs }

/-- The main domain at the end of start-up of a station in NORMAL and RUN with the default settings and
the strap value `strap` from 1 to 15, after a COLD start (R196), with the STATUS of R90 queued. -/
def coldMain (strap : Nat) : Main :=
  { strap := strap, cfg := defaultSettings, cfgDefault := true, cfgClamped := false,
    portA := freshPort, portB := freshPort, contacts := [], slots := emptySlots,
    alertsReleased := 0, queue := [{ mask := 0xFFFE#16, body := .status }], current := none,
    linkCheck := 0, linkDrop := 0, statusTimer := some (defaultSettings.statusInterval * 1000),
    mute := false, peers := freshPeers strap (defaultSettings.peerSilence * 1000),
    routeDup := 0, routeRefused := 0, walk := 0, drain := idleDrain, supply := .normal,
    sagSeen := false, sagInAttempt := false, park := .run, wakeSettle := none, parkReturn := none, cause := .cold }

/-- The machine right after reset: a COLD start that has ended, with the values R195 and R196 give. What
the pins and the memory held is the model's choice (DESIGN CHOICE, log entry 1): strap value 1, no
configuration memory (so every default), VBAK present, IGN high, SENSE at 12 V, both frame-valid inputs low, the
line quiet. -/
def State.reset : State :=
  { pending := [], powered := true, backup := true,
    pins := { ign := true, senseMv := 12000, frameValidA := false, frameValidB := false, line := .quiet },
    ret := clearedRetained true, main := coldMain 1, journal := [] }

end Sys2Proof.Machine
end

