-- ==== Sys2Proof/Machine/Flags.lean ====
section
/-! DEFINITION. The five meter flags and the twelve findings: positions, severities and the set operations
(R57, table of section 11.3). -/

namespace Sys2Proof.Machine

/-- The twelve findings (R57). -/
inductive Finding where
  | mag
  | cover
  | reverse
  | leak
  | lowbat
  | rollback
  | split
  | chatter
  | excess
  | stall
  | restart
  | dials
  deriving DecidableEq, Repr

/-- The position of a finding in a FINDINGS field (section 11.3). -/
def Finding.pos : Finding → Nat
  | .mag => 0
  | .cover => 1
  | .reverse => 2
  | .leak => 3
  | .lowbat => 4
  | .rollback => 5
  | .split => 6
  | .chatter => 7
  | .excess => 8
  | .stall => 9
  | .restart => 10
  | .dials => 11

/-- The severity of a finding (R57). -/
def Finding.severity : Finding → Nat
  | .mag => 3
  | .cover => 3
  | .reverse => 2
  | .leak => 1
  | .lowbat => 0
  | .rollback => 3
  | .split => 3
  | .chatter => 2
  | .excess => 2
  | .stall => 1
  | .restart => 2
  | .dials => 2

/-- The twelve findings in the order of their positions. -/
def Finding.all : List Finding :=
  [.mag, .cover, .reverse, .leak, .lowbat, .rollback, .split, .chatter, .excess, .stall, .restart,
    .dials]

/-- The set whose only member is `f`. -/
def Finding.only (f : Finding) : FindingSet := 1#12 <<< f.pos

/-- `f` is a member of `fs`. -/
def hasFinding (fs : FindingSet) (f : Finding) : Bool := fs.getLsbD f.pos

/-- The set with member `f` when `b` holds, and the empty set otherwise. -/
def findingIf (b : Bool) (f : Finding) : FindingSet := if b then f.only else 0#12

/-- The findings of the same names as the meter flags of `fl` (R29): the two share positions 0 to 4. -/
def findingsOfFlags (fl : FlagSet) : FindingSet := fl.setWidth 12

/-- The highest severity of a set: absent for the empty set (R57). -/
def highestSeverity (fs : FindingSet) : Option Nat :=
  ((Finding.all.filter (hasFinding fs)).map Finding.severity).foldl
    (fun best v => some (max v (best.getD 0))) none

/-- The alert test of R62 on the findings `fs`: the highest severity is at least the threshold, or the
meter is WATCHed and it is at least 1. -/
def qualifies (fs : FindingSet) (threshold : Nat) (watched : Bool) : Bool :=
  match highestSeverity fs with
  | none => false
  | some v => decide (threshold ≤ v) || (watched && decide (1 ≤ v))

end Sys2Proof.Machine
end

