-- ==== Sys2Proof/Machine/Operands.lean ====
section
/-! DEFINITION. What the part reads from bytes: the check word, a port frame's burst (R9, R200), a post on
the Drive Link (R86, R201, R202) and the configuration block (R193, R194, R203). -/

namespace Sys2Proof.Machine

/-! ## Bits, bytes and words -/

/-- The whole bytes of a run of bits, most significant bit first (R1); a trailing partial byte is left. -/
def packBits : List Bool → List Byte
  | b7 :: b6 :: b5 :: b4 :: b3 :: b2 :: b1 :: b0 :: rest =>
    BitVec.ofNat 8 (b7.toNat * 128 + b6.toNat * 64 + b5.toNat * 32 + b4.toNat * 16 + b3.toNat * 8 +
      b2.toNat * 4 + b1.toNat * 2 + b0.toNat) :: packBits rest
  | _ => []

/-- The byte at position `i`, counted from 0; positions past the end read as 0. -/
def byteAt (bs : List Byte) (i : Nat) : Byte := bs.getD i 0#8

/-- The big-endian value of a list of bytes (section 11). -/
def beNat (bs : List Byte) : Nat := bs.foldl (fun v b => v * 256 + b.toNat) 0

/-- The big-endian value of the `n` bytes from position `i`. -/
def beAt (bs : List Byte) (i n : Nat) : Nat := beNat ((bs.drop i).take n)

/-- The 16-bit big-endian words of a covered region; one zero byte pads an odd length (Introduction). -/
def wordsOf : List Byte → List Nat
  | hi :: lo :: rest => (hi.toNat * 256 + lo.toNat) :: wordsOf rest
  | [hi] => [hi.toNat * 256]
  | [] => []

/-- Ones'-complement addition of two 16-bit words, with end-around carry. -/
def addWord (a b : Nat) : Nat := (a + b) % 65536 + (a + b) / 65536

/-- The check word of a covered region (Introduction, "Check words"). -/
def checkWord (bs : List Byte) : Nat := 65535 - (wordsOf bs).foldl addWord 0

/-! ## The burst of a port frame -/

/-- The fields of a burst (R9). -/
structure Burst where
  meter : MeterId
  version : Nat
  utility : Nat
  dials : Nat
  reading : Nat
  counter : Nat
  resets : Nat
  flags : FlagSet
  deriving DecidableEq, Repr

/-- The fields of the burst in a frame of fifteen bytes: the level byte, then the burst (section 11.1). -/
def decodeBurst (bs : List Byte) : Burst :=
  { meter := BitVec.ofNat 32 (beAt bs 1 4)
    version := (byteAt bs 5).toNat / 16
    utility := (byteAt bs 5).toNat % 16
    dials := beAt bs 6 4 / 2 ^ 28
    reading := beAt bs 6 4 % 2 ^ 28
    counter := (byteAt bs 10).toNat
    resets := (byteAt bs 11).toNat % 16
    flags := (byteAt bs 12).setWidth 5 }

/-- The check word of the burst is right (R10, check 2). -/
def burstCheckOk (bs : List Byte) : Bool := checkWord ((bs.drop 1).take 12) == beAt bs 13 2

/-- A METER-ID is valid: neither 0 nor FFFFFFFFh (R9, R11). -/
def validMeter (m : MeterId) : Bool := m != 0#32 && m != 0xFFFFFFFF#32

/-- The burst's fields are valid (R11, check 3). -/
def burstValid (b : Burst) : Bool :=
  b.version == 1 && decide (4 ≤ b.dials) && decide (b.dials ≤ 8) && decide (b.reading < 10 ^ b.dials) &&
    validMeter b.meter

/-- The receive level of a frame: the level byte, 64–255 taken as 63 (R8). -/
def receiveLevel (bs : List Byte) : Nat := min (byteAt bs 0).toNat 63

/-- The quality of a taken burst (R8): the receive level less LEVEL-OFFSET, floored at 0. -/
def burstQuality (bs : List Byte) (offset : Nat) : Nat := receiveLevel bs - offset

/-! ## Posts heard on the Drive Link -/

/-- The kinds of post by their codes (section 11.2). -/
inductive Kind where
  | status
  | claim
  | yield
  | alert
  | alertAck
  | routeBegin
  | routeEntry
  | routeGo
  | routeClose
  | routeGap
  | park
  | run
  | reset
  | configQuery
  | configReport
  | countQuery
  | countReport
  | drainOpen
  | record
  | batchEnd
  | commit
  | drainClose
  deriving DecidableEq, Repr

/-- The kind code of a kind (section 11.2). -/
def Kind.code : Kind → Byte
  | .status => 0x01#8
  | .claim => 0x02#8
  | .yield => 0x03#8
  | .alert => 0x04#8
  | .alertAck => 0x05#8
  | .routeBegin => 0x10#8
  | .routeEntry => 0x11#8
  | .routeGo => 0x12#8
  | .routeClose => 0x13#8
  | .routeGap => 0x14#8
  | .park => 0x20#8
  | .run => 0x21#8
  | .reset => 0x22#8
  | .configQuery => 0x30#8
  | .configReport => 0x31#8
  | .countQuery => 0x32#8
  | .countReport => 0x33#8
  | .drainOpen => 0x40#8
  | .record => 0x41#8
  | .batchEnd => 0x42#8
  | .commit => 0x43#8
  | .drainClose => 0x44#8

/-- The kinds in the order of their codes. -/
def Kind.all : List Kind :=
  [.status, .claim, .yield, .alert, .alertAck, .routeBegin, .routeEntry, .routeGo, .routeClose,
    .routeGap, .park, .run, .reset, .configQuery, .configReport, .countQuery, .countReport, .drainOpen,
    .record, .batchEnd, .commit, .drainClose]

/-- The kind a code names; absent for a code that names no kind (R201). -/
def kindOf (code : Byte) : Option Kind := Kind.all.find? fun k => k.code == code

/-- The role code of a role (section 11.2). -/
def roleCode : Role → Nat
  | .collector => 1
  | .console => 2
  | .dock => 3

/-- The role a code names; absent for a code that names none of the three (R201). -/
def roleOf (code : Nat) : Option Role :=
  if code = 1 then some .collector
  else if code = 2 then some .console
  else if code = 3 then some .dock
  else none

/-- The SYNC byte (section 11.2). -/
def syncByte : Byte := 0x96#8

/-- The largest valid LENGTH (R86). -/
def bodyLimit : Nat := 56

/-- A whole post as received: SOURCE, the role its code names, the kind its code names, MASK and BODY. -/
structure Heard where
  src : Nat
  role : Option Role
  kind : Option Kind
  mask : BitVec 16
  body : List Byte
  deriving DecidableEq, Repr

/-- The whole post a stretch of line activity forms, if its check word is valid (R86). Bytes after CHECK
are no part of it (R85). -/
def parsePost (bs : List Byte) : Option Heard :=
  let len := beAt bs 5 2
  if bs.length < 9 ∨ byteAt bs 0 ≠ syncByte ∨ bodyLimit < len ∨ bs.length < 9 + len ∨
      checkWord ((bs.drop 1).take (6 + len)) ≠ beAt bs (7 + len) 2 then
    none
  else
    some { src := (byteAt bs 1).toNat / 16
           role := roleOf ((byteAt bs 1).toNat % 16)
           kind := kindOf (byteAt bs 2)
           mask := BitVec.ofNat 16 (beAt bs 3 2)
           body := (bs.drop 7).take len }

/-- The body lengths allowed for a kind that R88 acts on (section 11.2). STATUS and ALERT are not judged
by their length (R202). -/
def lengthAllowed (k : Kind) (n : Nat) : Bool :=
  match k with
  | .claim => n == 6
  | .yield => n == 4
  | .alertAck => n == 5
  | .routeBegin => n == 4
  | .routeEntry => n == 17 || n == 34 || n == 51
  | .countQuery => n == 1
  | .commit => n == 4
  | .routeGo => n == 0
  | .routeClose => n == 0
  | .park => n == 0
  | .run => n == 0
  | .reset => n == 0
  | .configQuery => n == 0
  | .drainOpen => n == 0
  | .drainClose => n == 0
  | .status => true
  | .alert => true
  | .routeGap => false
  | .configReport => false
  | .countReport => false
  | .record => false
  | .batchEnd => false

/-- One entry of a ROUTE-ENTRY body from its seventeen bytes (section 11.4). -/
def decodeEntry (bs : List Byte) : EntryFields :=
  let flags := beAt bs 10 3
  { index := BitVec.ofNat 16 (beAt bs 0 2)
    meter := BitVec.ofNat 32 (beAt bs 2 4)
    dr := BitVec.ofNat 4 (beAt bs 6 4 / 2 ^ 28)
    p := BitVec.ofNat 28 (beAt bs 6 4)
    a := BitVec.ofNat 20 flags
    c := BitVec.ofNat 16 (beAt bs 13 2)
    b := byteAt bs 15
    kr := if flags / 2 ^ 22 % 2 = 1 then some (BitVec.ofNat 4 ((byteAt bs 16).toNat / 16)) else none
    hint := if flags / 2 ^ 21 % 2 = 1 then some (BitVec.ofNat 2 (byteAt bs 16).toNat) else none
    watch := flags / 2 ^ 23 % 2 == 1 }

/-- The entries of a ROUTE-ENTRY body, in the order the post carries them: one for each seventeen bytes. -/
def decodeEntries (body : List Byte) : List EntryFields :=
  (List.range (body.length / 17)).map fun k => decodeEntry ((body.drop (17 * k)).take 17)

/-- The hold status of a CLAIM body: bit 0 of byte 5 (section 11.4). -/
def decodeHold (b : Byte) : Hold := if b.getLsbD 0 then .held else .claiming

/-! ## The configuration block -/

/-- A port's setting byte as it stands in the block (section 11.5). -/
def decodePort (b : Byte) : PortSettings :=
  { enable := b.getLsbD 7, keepNewest := b.getLsbD 6, levelOffset := b.toNat % 32 }

/-- The settings as they stand in the block, before any clamp (section 11.5, R203). -/
def decodeSettings (bs : List Byte) : Settings :=
  { strayCapture := (byteAt bs 0).getLsbD 7
    sector := (byteAt bs 0).toNat % 4
    portA := decodePort (byteAt bs 1)
    portB := decodePort (byteAt bs 2)
    acceptMask := BitVec.ofNat 16 (beAt bs 3 2)
    prefixMask := BitVec.ofNat 32 (beAt bs 5 4)
    prefixValue := BitVec.ofNat 32 (beAt bs 9 4)
    window := (byteAt bs 13).toNat
    limit := (byteAt bs 14).toNat
    idleTimeout := (byteAt bs 15).toNat
    holdOff := (byteAt bs 16).toNat
    settle := (byteAt bs 17).toNat
    statusInterval := (byteAt bs 18).toNat
    peerSilence := (byteAt bs 19).toNat
    threshold := (byteAt bs 20).toNat
    stallAge := beAt bs 21 2
    commitWait := (byteAt bs 23).toNat
    parkReturn := (byteAt bs 24).toNat
    supplyLevel := (byteAt bs 25).toNat }

/-- The nearest end of the range `lo` to `hi` for a value outside it (R194). -/
def clamp (lo hi v : Nat) : Nat := max lo (min hi v)

/-- A port's settings with LEVEL-OFFSET clamped to 15 (R2). -/
def clampPort (p : PortSettings) : PortSettings :=
  { p with levelOffset := clamp 0 15 p.levelOffset }

/-- The effective settings of a block whose check word is right (R194): each setting clamped to its
range, then the peer silence raised to twice the status interval where it is below that. -/
def clampSettings (c : Settings) : Settings :=
  let interval := clamp 1 20 c.statusInterval
  { c with
    portA := clampPort c.portA
    portB := clampPort c.portB
    prefixValue := c.prefixValue &&& c.prefixMask
    window := clamp 1 60 c.window
    limit := clamp 2 8 c.limit
    idleTimeout := clamp 2 60 c.idleTimeout
    holdOff := clamp 0 50 c.holdOff
    settle := clamp 2 50 c.settle
    statusInterval := interval
    peerSilence := max (clamp 2 60 c.peerSilence) (2 * interval)
    threshold := clamp 1 3 c.threshold
    commitWait := clamp 1 10 c.commitWait
    parkReturn := clamp 5 120 c.parkReturn
    supplyLevel := clamp 0 7 c.supplyLevel }

/-- What step 2 of start-up produces (R193): the effective settings, CFG-DEFAULT and CFG-CLAMPED. -/
structure ReadConfig where
  settings : Settings
  isDefault : Bool
  clamped : Bool
  deriving DecidableEq, Repr

/-- The block's check word is right (R193). -/
def blockCheckOk (bs : List Byte) : Bool :=
  bs.length == 32 && checkWord (bs.take 30) == beAt bs 30 2

/-- Reading the configuration block (R193, R194): with the check word right every setting is taken and
clamped, and CFG-CLAMPED is set when any setting changed by it; otherwise every default. -/
def readConfig (bs : List Byte) : ReadConfig :=
  if blockCheckOk bs then
    { settings := clampSettings (decodeSettings bs), isDefault := false,
      clamped := decide (clampSettings (decodeSettings bs) ≠ decodeSettings bs) }
  else
    { settings := defaultSettings, isDefault := true, clamped := false }

end Sys2Proof.Machine
end

