-- ==== Sys2Proof/Machine/Ops.lean ====
section
/-! DEFINITION. The shared operations: writes of the retained domain, the passing of time, the tables, the
log, the transmit queue and the conditions of the part. -/

namespace Sys2Proof.Machine

/-! ## Writes of the retained domain -/

/-- The start of a step: no write of it has been made yet (model's own journal, log entry 3). -/
def State.begin (s : State) : State := { s with journal := [] }

/-- One write of the retained domain (R159): the change `f`, with the domain as it stood before kept in the
journal. -/
def State.write (s : State) (f : Retained → Retained) : State :=
  { s with ret := f s.ret, journal := s.ret :: s.journal }

/-- The outcome of a step that completes. -/
def done (s : State) : Host.Outcome State Fault Refusal := .next s

/-! ## Time -/

/-- The route clock counts in RUNNING, CLOSING and CLOSED (R127). -/
def routeClockRuns : RouteState → Bool
  | .noRoute => false
  | .loading => false
  | .running => true
  | .closing => true
  | .closed => true

/-- `n` milliseconds on the two clocks of the retained domain (R127, R184): each stops at its largest value. -/
def Retained.passTime (r : Retained) (n : Nat) : Retained :=
  if routeClockRuns r.routeState then
    { r with
      stationClock := min (r.stationClock + n) stationClockMax
      routeClock := min (r.routeClock + (r.routePhase + n) / 1000) routeClockMax
      routePhase := (r.routePhase + n) % 1000 }
  else
    { r with stationClock := min (r.stationClock + n) stationClockMax }

/-- `n` milliseconds on a timer. -/
def Timer.pass (t : Timer) (n : Nat) : Timer := t.map (· - n)

/-- `n` milliseconds on the three timers of a contact (R21). -/
def Contact.passTime (c : Contact) (n : Nat) : Contact :=
  { c with idle := Timer.pass c.idle n, holdOff := Timer.pass c.holdOff n,
           settle := Timer.pass c.settle n }

/-- `n` milliseconds on a peer's silence timer (R95). -/
def Peer.passTime (p : Peer) (n : Nat) : Peer := { p with silence := Timer.pass p.silence n }

/-- `n` milliseconds on every timer of the main domain (R183, R185). -/
def Main.passTime (m : Main) (n : Nat) : Main :=
  { m with
    contacts := m.contacts.map (·.passTime n)
    statusTimer := Timer.pass m.statusTimer n
    peers := m.peers.map (·.passTime n)
    drain := { m.drain with commitWait := Timer.pass m.drain.commitWait n }
    wakeSettle := Timer.pass m.wakeSettle n
    parkReturn := Timer.pass m.parkReturn n }

/-- `n` milliseconds pass. The clocks run on VMAIN or VBAK while the retained domain is kept (R184); the
timers run while the part is powered. -/
def State.passTime (s : State) (n : Nat) : State :=
  { s with
    ret := if s.ret.retentionValid then s.ret.passTime n else s.ret
    main := if s.powered then s.main.passTime n else s.main }

/-- A timer started for `ms` milliseconds. -/
def startTimer (ms : Nat) : Timer := some ms

/-! ## Sorted tables -/

/-- `x` put into a list that rises strictly by `key`, at its place. -/
def insertBy {α : Type} (key : α → Nat) (x : α) : List α → List α
  | [] => [x]
  | y :: ys => if key x < key y then x :: y :: ys else y :: insertBy key x ys

/-! ## The contact table -/

/-- The contact of meter `m` (R20). -/
def State.contactOf (s : State) (m : MeterId) : Option Contact :=
  s.main.contacts.find? fun c => c.meter == m

/-- The contact table with the contact of `c`'s meter replaced by `c`. -/
def State.setContact (s : State) (c : Contact) : State :=
  { s with main := { s.main with
      contacts := s.main.contacts.map fun x => if x.meter = c.meter then c else x } }

/-- The contact table without the contact of meter `m`. -/
def State.dropContact (s : State) (m : MeterId) : State :=
  { s with main := { s.main with contacts := s.main.contacts.filter fun c => c.meter != m } }

/-- The contact table with the new contact `c`. -/
def State.addContact (s : State) (c : Contact) : State :=
  { s with main := { s.main with
      contacts := insertBy (fun x => x.meter.toNat) c s.main.contacts } }

/-- The contact is CEDED. -/
def Contact.isCeded (c : Contact) : Bool :=
  match c.state with
  | .ceded _ => true
  | _ => false

/-- The contact is HELD and owns the record `seq` (R36). -/
def Contact.holds (c : Contact) (seq : Nat) : Bool := c.state == .held seq

/-! ## The route table -/

/-- The entry of meter `m` (R123). -/
def Retained.entryOf (r : Retained) (m : MeterId) : Option RouteEntry :=
  r.entries.find? fun e => e.meter == m

/-- The entry at index `i` (R123). -/
def Retained.entryAt (r : Retained) (i : Nat) : Option RouteEntry :=
  r.entries.find? fun e => e.index == i

/-- The entries with the entry of meter `m` changed by `f`. -/
def updEntryList (m : MeterId) (f : RouteEntry → RouteEntry) (es : List RouteEntry) :
    List RouteEntry :=
  es.map fun e => if e.meter = m then f e else e

/-- The entry of meter `m` changed by `f`. -/
def Retained.updEntry (r : Retained) (m : MeterId) (f : RouteEntry → RouteEntry) : Retained :=
  { r with entries := updEntryList m f r.entries }

/-- The entry of meter `m` changed by `f` while the route is RUNNING; in every other route state the
entries are left as they are (R99, R145). -/
def Retained.updRunningEntry (r : Retained) (m : MeterId) (f : RouteEntry → RouteEntry) : Retained :=
  if r.routeState = .running then r.updEntry m f else r

/-- The entry of meter `m` while the route is RUNNING. -/
def Retained.runningEntryOf (r : Retained) (m : MeterId) : Option RouteEntry :=
  if r.routeState = .running then r.entryOf m else none

/-- The claimant of a route entry (R99). -/
def EntryState.claimant : EntryState → Option Claim
  | .due => none
  | .peerClaiming s q => some { station := s, quality := q, hold := .claiming }
  | .readHere => none
  | .readPeer s q => some { station := s, quality := q, hold := .held }
  | .missed c => c

/-- The meter is WATCHed (R60). -/
def Retained.watched (r : Retained) (m : MeterId) : Bool :=
  match r.entryOf m with
  | some e => e.watch
  | none => false

/-! ## The capture log -/

/-- The record with sequence `seq` (R150). -/
def Retained.recordOf (r : Retained) (seq : Nat) : Option Record :=
  r.log.find? fun x => x.seq == seq

/-- The record with sequence `seq` changed by `f`. -/
def Retained.updRecord (r : Retained) (seq : Nat) (f : Record → Record) : Retained :=
  { r with log := r.log.map fun x => if x.seq = seq then f x else x }

/-- A record appended at the newest end with the next sequence number (R150, R151). -/
def Retained.append (r : Retained) (route : Nat) (openState : OpenState) (body : RecordBody) :
    Retained :=
  { r with
    log := r.log ++ [{ seq := r.nextSeq, route := route, openState := openState, mark := .unsent,
                       alert := .none, body := body }]
    nextSeq := r.nextSeq + 1 }

/-- Room for a READ or MISSED record (R154). -/
def Retained.room (r : Retained) : Bool :=
  decide (r.log.length + r.reserved.toNat < logLimit) &&
    decide (r.nextSeq + r.reserved.toNat ≤ seqMax)

/-- The record with its OPEN-STATE CLOSED and nothing else changed (R39, R158). -/
def Record.close (x : Record) : Record := { x with openState := .closed }

/-- The record with DRAIN-MARK `m`. -/
def Record.withMark (m : DrainMark) (x : Record) : Record := { x with mark := m }

/-- The record with ALERT-STATE `a`. -/
def Record.withAlert (a : AlertState) (x : Record) : Record := { x with alert := a }

/-- The meter fields of a READ record. -/
def Record.readFields (x : Record) : Option ReadFields :=
  match x.body with
  | .read f => some f
  | _ => none

/-- The meter of a READ or MISSED record. -/
def Record.meter (x : Record) : Option MeterId :=
  match x.body with
  | .read f => some f.meter
  | .missed f => some f.meter
  | .routeEnd _ => none

/-- The record is a READ record for meter `m`. -/
def Record.isReadOf (m : MeterId) (x : Record) : Bool :=
  match x.body with
  | .read f => f.meter == m
  | _ => false

/-- The SEQUENCE of the newest READ record for meter `m` in the log (R150). -/
def Retained.newestReadOf (r : Retained) (m : MeterId) : Option Nat :=
  ((r.log.filter (Record.isReadOf m)).getLast?).map Record.seq

/-! ## Conditions of the part -/

/-- The frame slots and counters of a port. -/
def Main.port (m : Main) : Port → PortState
  | .a => m.portA
  | .b => m.portB

/-- A port's slots and counters replaced. -/
def Main.setPort (m : Main) (p : Port) (x : PortState) : Main :=
  match p with
  | .a => { m with portA := x }
  | .b => { m with portB := x }

/-- A port's slots and counters replaced, in the state. -/
def State.setPort (s : State) (p : Port) (x : PortState) : State :=
  { s with main := s.main.setPort p x }

/-- The settings of a port (R2). -/
def portSettings (c : Settings) : Port → PortSettings
  | .a => c.portA
  | .b => c.portB

/-- A port runs (R5). -/
def State.portRuns (s : State) (p : Port) : Bool :=
  s.powered && (portSettings s.main.cfg p).enable && s.main.park == .run

/-- The station is awake on the link: RUN, or LINK-AWAKE with the wake settle run (R79, R85). -/
def State.awake (s : State) : Bool :=
  s.powered && (s.main.park == .run || (s.main.park == .linkAwake && s.main.wakeSettle.isNone))

/-- An attempt is in progress (R76). -/
def State.inAttempt (s : State) : Bool :=
  match s.main.current with
  | some c => c.attempt.isSome
  | none => false

/-- The receiver takes posts: it is receptive (R85), and this station makes no attempt of its own. -/
def State.receptive (s : State) : Bool := s.awake && !s.inAttempt

/-- The stretch of activity on the line replaced. -/
def State.setLine (s : State) (l : LinkLine) : State := { s with pins := { s.pins with line := l } }

/-- A post that ends now is received (R85): the receiver takes posts, and did when the post began. -/
def State.receives (s : State) : Bool := s.receptive && s.pins.line != .missed

/-- A post has ended on the line (R85). During an attempt of this station the line carries that attempt. -/
def State.postEnds (s : State) : State := if s.inAttempt then s else s.setLine .quiet

/-- The stretch under way when the receiver stops being receptive: what it carries is not received (R85, R186). -/
def LinkLine.cut : LinkLine → LinkLine
  | .quiet => .quiet
  | .heard => .missed
  | .missed => .missed

/-- The transmitter is allowed to start an attempt (R79). -/
def State.mayStart (s : State) : Bool :=
  s.awake && s.main.supply == .normal && !s.main.mute

/-- This station's number where claims and responsibility are compared: 16 for strap value 0 (R98, R139). -/
def State.ownNumber (s : State) : Nat := if s.main.strap = 0 then 16 else s.main.strap

/-- This station is addressed by a MASK: by its own position, or, without a station number, by all
fifteen positions (R88, R201). -/
def State.addressedBy (s : State) (mask : BitVec 16) : Bool :=
  if s.main.strap = 0 then mask ||| 1#16 == 0xFFFF#16 else mask.getLsbD s.main.strap

/-- The MASK that addresses every station (section 11.2). -/
def maskAll : BitVec 16 := 0xFFFE#16

/-- The MASK that addresses station `n` alone. -/
def maskOf (n : Nat) : BitVec 16 := 1#16 <<< n

/-- One claim beats another (R98). -/
def Claim.beats (x y : Claim) : Bool :=
  if x.hold ≠ y.hold then x.hold == .held
  else if x.quality ≠ y.quality then decide (y.quality < x.quality)
  else decide (x.station < y.station)

/-- This station's claim for the meter of a LISTENING or CLAIMING contact (R98). -/
def State.ownClaim (s : State) (c : Contact) : Claim :=
  { station := s.ownNumber, quality := c.bestQuality, hold := .claiming }

/-! ## The transmit queue -/

/-- The class of a post (R75). -/
def PostBody.cls : PostBody → Nat
  | .alert .. => 0
  | .claim .. => 1
  | .yield _ => 1
  | .routeGap .. => 2
  | .configReport .. => 2
  | .countReport .. => 2
  | .record _ => 3
  | .batchEnd .. => 3
  | .status => 4

/-- The post is a STATUS. -/
def PostBody.isStatus : PostBody → Bool
  | .status => true
  | _ => false

/-- The post is a drain post, a RECORD or a BATCH-END (R80). -/
def PostBody.isDrain : PostBody → Bool
  | .record _ => true
  | .batchEnd .. => true
  | _ => false

/-- The meter of a CLAIM or a YIELD. -/
def PostBody.claimMeter : PostBody → Option MeterId
  | .claim m _ _ => some m
  | .yield m => some m
  | _ => none

/-- A new post `new` replaces `old` (R82): both are STATUS, or both are a CLAIM or YIELD for one meter. -/
def PostBody.replaces (new old : PostBody) : Bool :=
  (new.isStatus && old.isStatus) ||
    (new.claimMeter.isSome && new.claimMeter == old.claimMeter)

/-- What replacement and withdrawal do to the current post when `hit` holds of it (R82, R83): between
attempts it is dropped with its loss count; during an attempt it runs to its end and a loss drops it. -/
def Current.reach (hit : PostBody → Bool) (c : Current) : Option Current :=
  if hit c.post.body then
    match c.attempt with
    | none => none
    | some _ => some { c with dropAtLoss := true }
  else some c

/-- `Current.reach` on the transmitter. -/
def State.reachCurrent (s : State) (hit : PostBody → Bool) : State :=
  { s with main := { s.main with current := s.main.current.bind (Current.reach hit) } }

/-- The queue takes a post offered to it: it holds a post the new one replaces, or it is not full (R81). -/
def State.takesOffer (s : State) (p : Post) : Bool :=
  s.main.queue.any (fun x => p.body.replaces x.body) || decide (s.main.queue.length < queueLimit)

/-- The queue after a post it takes (R81, R82): a queued post of R82 is removed, and the new post enters at
the tail; its class decides its turn (R80). -/
def State.enqueue (s : State) (p : Post) : State :=
  { s with main := { s.main with
      queue := s.main.queue.filter (fun x => !p.body.replaces x.body) ++ [p] } }

/-- A post offered to the queue (R81): taken, with the replacement of R82 reaching the current post as
well, or refused and dropped. -/
def State.offer (s : State) (p : Post) : State :=
  if s.takesOffer p then (s.enqueue p).reachCurrent p.body.replaces else s

/-- The queue has a free place (R64, R169). -/
def State.queueRoom (s : State) : Bool := decide (s.main.queue.length < queueLimit)

/-- The posts `hit` holds of are withdrawn from the queue and the transmitter (R83). -/
def State.withdraw (s : State) (hit : PostBody → Bool) : State :=
  ({ s with main := { s.main with
      queue := s.main.queue.filter fun p => !hit p.body } } : State).reachCurrent hit

/-- The head of the queue among the posts of the class `k`, and the queue without it. -/
def takeClass (k : Nat) (q : List Post) : Option (Post × List Post) :=
  match q.find? fun p => p.body.cls == k with
  | some p => some (p, q.eraseP fun p => p.body.cls == k)
  | none => none

/-- The head of the queue (R80), the oldest post of the lowest class that holds any, and the queue
without it. -/
def takeHead (q : List Post) : Option (Post × List Post) :=
  (takeClass 0 q).or ((takeClass 1 q).or ((takeClass 2 q).or ((takeClass 3 q).or (takeClass 4 q))))

/-- A STATUS is offered, and the status timer restarts (R90). -/
def State.offerStatus (s : State) : State :=
  let t := s.offer { mask := maskAll, body := .status }
  { t with main := { t.main with statusTimer := startTimer (t.main.cfg.statusInterval * 1000) } }

/-- The CLAIM of this station for meter `m` (R75). -/
def claimPost (m : MeterId) (quality : Nat) (hold : Hold) : Post :=
  { mask := maskAll, body := .claim m quality hold }

/-- The YIELD of this station for meter `m` (R75). -/
def yieldPost (m : MeterId) : Post := { mask := maskAll, body := .yield m }

/-- The CLAIMING CLAIM of a contact for meter `m` (R39). -/
def isClaimingClaim (m : MeterId) : PostBody → Bool
  | .claim x _ .claiming => x == m
  | _ => false

/-! ## The alert slots -/

/-- What slot `i` holds. -/
def Slots.get (x : Slots) (i : Fin 4) : Option Nat :=
  match i with
  | 0 => x.s0
  | 1 => x.s1
  | 2 => x.s2
  | 3 => x.s3

/-- Slot `i` replaced. -/
def Slots.set (x : Slots) (i : Fin 4) (v : Option Nat) : Slots :=
  match i with
  | 0 => { x with s0 := v }
  | 1 => { x with s1 := v }
  | 2 => { x with s2 := v }
  | 3 => { x with s3 := v }

/-- The slot numbers in order. -/
def slotNumbers : List (Fin 4) := [0, 1, 2, 3]

/-- The empty slot with the lowest number (R64). -/
def Slots.lowestEmpty (x : Slots) : Option (Fin 4) :=
  slotNumbers.find? fun i => (x.get i).isNone

/-- The slot that holds the record `seq`. -/
def Slots.slotOf (x : Slots) (seq : Nat) : Option (Fin 4) :=
  slotNumbers.find? fun i => x.get i == some seq

/-- The post is the ALERT of slot `i`. -/
def isAlertOf (i : Fin 4) : PostBody → Bool
  | .alert j _ _ _ _ _ => j == i
  | _ => false

/-- Slot `i` is emptied, and an ALERT for it still waiting is withdrawn (R63). -/
def State.freeSlot (s : State) (i : Fin 4) : State :=
  ({ s with main := { s.main with slots := s.main.slots.set i none } } : State).withdraw (isAlertOf i)

/-- The alert test on the record `seq` (R62): an OPEN READ record in NONE whose findings qualify goes to
PENDING, as one write. -/
def State.raise (s : State) (seq : Nat) : State :=
  match s.ret.recordOf seq with
  | none => s
  | some x =>
    match x.body with
    | .read f =>
      if x.openState = .opened ∧ x.alert = .none ∧
          qualifies f.findings s.main.cfg.threshold (s.ret.watched f.meter) = true then
        s.write fun r => r.updRecord seq (Record.withAlert .pending)
      else s
    | _ => s

end Sys2Proof.Machine
end

