-- ==== Sys2Proof/Machine/Evaluation.lean ====
section
/-! DEFINITION. The reading evaluator (chapter 3): pure functions of an arrival's inputs. -/

namespace Sys2Proof.Machine

/-- DIRECTION of an advance (R45). -/
inductive Direction where
  | forward
  | zero
  | jitter
  | backward
  deriving DecidableEq, Repr

/-- The inputs of a full evaluation (R42). -/
structure EvalInput where
  n : Nat
  d : Nat
  k : Nat
  p : Nat
  dr : Nat
  a : Nat
  c : Nat
  b : Nat
  kr : Option Nat
  z : Option Nat
  v : Option Nat
  t : Nat
  s : Nat
  deriving DecidableEq, Repr

/-- The result of an evaluation (R41): the findings and the measures, with the direction. -/
structure EvalResult where
  findings : FindingSet
  direction : Option Direction
  measures : Option Measures
  deriving DecidableEq, Repr

/-- (n − ref) mod 10^d, in 0 to 10^d − 1 (R44, R51, R52). -/
def readingDelta (n ref d : Nat) : Nat := (((n : Int) - (ref : Int)) % (10 ^ d : Nat)).toNat

/-- The backward window Wb = 10^(d−1) (R44). -/
def backwardWindow (d : Nat) : Nat := 10 ^ (d - 1)

/-- The difference `delta` lies in the backward window (R44). -/
def isBackward (delta d : Nat) : Bool := decide (10 ^ d - backwardWindow d ≤ delta)

/-- A backward step of more than `b` units from `ref` to `n` (R51, R52). -/
def backwardBeyond (n ref d b : Nat) : Bool :=
  isBackward (readingDelta n ref d) d && decide (b < 10 ^ d - readingDelta n ref d)

/-- The direction of the difference `delta` with the jitter allowance `b` (R44, R45). -/
def directionOf (delta d b : Nat) : Direction :=
  if delta = 0 then .zero
  else if isBackward delta d then
    if 10 ^ d - delta ≤ b then .jitter else .backward
  else .forward

/-- The advance stored (R45). -/
def advanceOf (delta d : Nat) : Direction → Int
  | .forward => (delta : Int)
  | .zero => 0
  | .jitter => 0
  | .backward => -((10 ^ d - delta : Nat) : Int)

/-- The elapsed whole minutes E, saturating at 1,048,575 (R46). -/
def elapsedMinutes (a t : Nat) : Nat := min (a + t / 60) elapsedMax

/-- The rate R, saturating at 65535 (R47). -/
def rateOf (delta e : Nat) : Direction → Nat
  | .forward => min (delta * 60 / max e 1) max16
  | .zero => 0
  | .jitter => 0
  | .backward => 0

/-- STALL is raised (R49). -/
def stalls (s e : Nat) (dir : Direction) : Bool :=
  decide (s ≠ 0) && (dir == .zero || dir == .jitter) && decide (s ≤ e)

/-- EXCESS is raised (R48). -/
def exceeds (c rate : Nat) : Bool := decide (c ≠ 0) && decide (c < rate)

/-- Steps 1 to 5: the dial check, and for equal dial counts the advance, the rate and their findings
(R43 to R49). -/
def evalBilled (i : EvalInput) : EvalResult :=
  if i.d ≠ i.dr then
    { findings := Finding.only .dials, direction := none, measures := none }
  else
    let delta := readingDelta i.n i.p i.d
    let dir := directionOf delta i.d i.b
    let e := elapsedMinutes i.a i.t
    let rate := rateOf delta e dir
    { findings := findingIf (dir == .backward) .rollback ||| findingIf (exceeds i.c rate) .excess |||
        findingIf (stalls i.s e dir) .stall
      direction := some dir
      measures := some { advance := advanceOf delta i.d dir, rate := rate } }

/-- Step 6: RESTART (R50). -/
def evalRestart (i : EvalInput) : FindingSet :=
  match i.kr with
  | none => 0#12
  | some kr => findingIf (decide (i.k ≠ kr)) .restart

/-- Steps 7 and 8: SPLIT against an earlier reading, when there is one (R51, R52). -/
def evalAgainst (n d b : Nat) : Option Nat → FindingSet
  | none => 0#12
  | some ref => findingIf (backwardBeyond n ref d b) .split

/-- A full evaluation, steps 1 to 8 (R43 to R54). -/
def evalFull (i : EvalInput) : EvalResult :=
  let r := evalBilled i
  { r with findings := r.findings ||| evalRestart i ||| evalAgainst i.n i.d i.b i.z |||
      evalAgainst i.n i.d i.b i.v }

/-- The stray treatment (R56): step 8 alone, with the jitter allowance `b`. -/
def evalStray (n d b : Nat) (v : Option Nat) : EvalResult :=
  { findings := evalAgainst n d b v, direction := none, measures := none }

end Sys2Proof.Machine
end

