-- ==== Sys2Proof/Machine/Contacts.lean ====
section
/-! DEFINITION. The contact table's shared operations: records opened, updated and closed, claim attempts,
settling, removal, creation, eviction and arrivals (chapters 2 and 6). -/

namespace Sys2Proof.Machine

/-! ## The open record -/

/-- A station-clock time `x` as the whole seconds a READ record of route number `route` holds (R37). -/
def Retained.heardSeconds (r : Retained) (route x : Nat) : Nat :=
  if route = 0 then x / 1000 else r.routeClock - (r.stationClock - x) / 1000

/-- The route number a READ record opened now takes (R36). -/
def Retained.recordRoute (r : Retained) : Nat :=
  if r.routeState = .running then r.routeNumber else 0

/-- The meter's entry carries DOUBLE (R125). -/
def Retained.entryDouble (r : Retained) (m : MeterId) : Bool :=
  match r.entryOf m with
  | some e => e.double
  | none => false

/-- The fields a READ record takes from the contact `c` at its opening (R36, R125). -/
def Retained.openFields (r : Retained) (c : Contact) : ReadFields :=
  { meter := c.meter, utility := c.utility, dials := c.dials, reading := c.reading,
    measures := c.measures, flags := c.flags, resets := c.resets, quality := c.bestQuality,
    firstHeard := r.heardSeconds r.recordRoute c.firstArrival,
    lastHeard := r.heardSeconds r.recordRoute c.lastArrival,
    arrivals := c.arrivals, findings := c.findings,
    marks := { stray := c.stray, reread := c.reread, solo := c.solo,
               double := r.entryDouble c.meter, interrupted := false } }

/-- An entry after this station's record work (R36, R38): Z takes the reading, and the findings union gains
the record's findings, which are the contact's. -/
def RouteEntry.logged (c : Contact) (e : RouteEntry) : RouteEntry :=
  { e with z := some c.reading, findings := e.findings ||| c.findings }

/-- The opening of the READ record of the contact `c`, one write (R156): the append, and while the route is
RUNNING the entry's Z, FINDINGS and STATE. -/
def Retained.openRecord (c : Contact) (r : Retained) : Retained :=
  (r.append r.recordRoute .opened (.read (r.openFields c))).updRunningEntry c.meter
    fun e => { e.logged c with state := .readHere }

/-- The record `x` brought up to date from its contact at a counted arrival (R38). -/
def Record.follow (r : Retained) (c : Contact) (x : Record) : Record :=
  match x.body with
  | .read f =>
    { x with body := .read { f with
        utility := c.utility, dials := c.dials, reading := c.reading, measures := c.measures,
        flags := c.flags, resets := c.resets, quality := c.bestQuality, arrivals := c.arrivals,
        lastHeard := r.heardSeconds x.route c.lastArrival,
        findings := f.findings ||| c.findings } }
  | _ => x

/-- The update of the record `seq` at a counted arrival, one write (R157): the record, and while the route is
RUNNING the entry's Z and FINDINGS. -/
def Retained.updateRecord (c : Contact) (seq : Nat) (r : Retained) : Retained :=
  (r.updRecord seq (Record.follow r c)).updRunningEntry c.meter (RouteEntry.logged c)

/-- The record `x` brought up to date from its contact at a duplicate arrival (R38). -/
def Record.followDuplicate (r : Retained) (c : Contact) (x : Record) : Record :=
  match x.body with
  | .read f =>
    { x with body := .read { f with
        quality := c.bestQuality, lastHeard := r.heardSeconds x.route c.lastArrival } }
  | _ => x

/-! ## Entry changes -/

/-- The meter's entry changed by `f`, one write, while the route is RUNNING and the meter has an entry. -/
def State.changeEntry (s : State) (m : MeterId) (f : RouteEntry → RouteEntry) : State :=
  match s.ret.runningEntryOf m with
  | some _ => s.write fun r => r.updEntry m f
  | none => s

/-- The entry in state `x`. -/
def RouteEntry.withState (x : EntryState) (e : RouteEntry) : RouteEntry := { e with state := x }

/-- The entry state that follows a contact whose CEDED-TO becomes `k` (R100). -/
def EntryState.afterCession (k : Claim) (x : EntryState) : EntryState :=
  match k.hold with
  | .held => .readPeer k.station k.quality
  | .claiming =>
    match x with
    | .due => .peerClaiming k.station k.quality
    | .peerClaiming _ _ => .peerClaiming k.station k.quality
    | y => y

/-! ## Claiming -/

/-- The contact enters HELD (R100, R104, R107, R122): SOLO is taken in MUTE, NOROOM is cleared, the settle
timer stops, the record is opened by one write, and the alert test is made on it, in SAG as in NORMAL (R62 against
R72; DEDUCED, log entry 14). -/
def State.enterHeld (s : State) (c : Contact) : State :=
  let c' := { c with solo := c.solo || s.main.mute, noroom := false, settle := none,
                     state := ContactState.held s.ret.nextSeq }
  ((s.write (Retained.openRecord c')).setContact c').raise s.ret.nextSeq

/-- The claimant of the meter's entry that beats this station's claim (R102). -/
def State.betterClaimant (s : State) (c : Contact) : Option Claim :=
  match (s.ret.runningEntryOf c.meter).bind fun e => e.state.claimant with
  | some k => if k.beats (s.ownClaim c) then some k else none
  | none => none

/-- The offer of a claim attempt (R105): admitted, the contact enters CLAIMING and its settle timer starts;
refused, the contact stays as it is. -/
def State.offerClaim (s : State) (c : Contact) : State :=
  let p := claimPost c.meter c.bestQuality .claiming
  if s.takesOffer p then
    (s.offer p).setContact { c with state := .claiming, noroom := false,
                                    settle := startTimer (s.main.cfg.settle * 100) }
  else s

/-- A claim attempt for the contact of meter `m` (R101 to R105), made when it is LISTENING (R35). -/
def State.attemptClaim (s : State) (m : MeterId) : State :=
  match s.contactOf m with
  | none => s
  | some c =>
    if c.state ≠ .listening then s
    else if s.ret.room = false then s.setContact { c with noroom := true }
    else
      match s.betterClaimant c with
      | some k => s.setContact { c with state := .ceded k }
      | none => if c.reread || s.main.mute then s.enterHeld c else s.offerClaim c

/-! ## Removal -/

/-- The contact of meter `m` is removed (R39). -/
def State.removeContact (s : State) (m : MeterId) : State :=
  match s.contactOf m with
  | none => s
  | some c =>
    match c.state with
    | .held q => (s.write fun r => r.updRecord q Record.close).dropContact m
    | .claiming => (s.withdraw (isClaimingClaim m)).dropContact m
    | .listening => s.dropContact m
    | .ceded _ => s.dropContact m

/-- The removal of a contact whose idle expiry was deferred while CLAIMING (R33). -/
def State.finishIdle (s : State) (m : MeterId) : State :=
  match s.contactOf m with
  | none => s
  | some c => if c.idlePending then s.removeContact m else s

/-- The sequences of the records the HELD contacts own, in ascending order. -/
def State.heldSeqs (s : State) : List Nat :=
  (s.ret.log.filter fun x => s.main.contacts.any fun c => c.holds x.seq).map Record.seq

/-- A CLAIMING CLAIM of a contact that is CLAIMING (R39). -/
def State.ownsClaim (s : State) (p : PostBody) : Bool :=
  s.main.contacts.any fun c => c.state == .claiming && isClaimingClaim c.meter p

/-- Every contact is removed by R39: the records of HELD contacts are closed in ascending sequence, each by
its own write (R158), and the CLAIMs of CLAIMING contacts are withdrawn. -/
def State.clearContacts (s : State) : State :=
  let t := s.heldSeqs.foldl (fun u q => u.write fun r => r.updRecord q Record.close) s
  let u := t.withdraw s.ownsClaim
  { u with main := { u.main with contacts := [] } }

/-! ## Settling -/

/-- A CLAIMING contact's settle timer has expired: with room it goes HELD and announces (R107), without room
it yields and returns to LISTENING with NOROOM (R108); a deferred idle expiry then removes it (R33). -/
def State.settleContact (s : State) (c : Contact) : State :=
  if s.ret.room then
    ((s.enterHeld c).offer (claimPost c.meter c.bestQuality .held)).finishIdle c.meter
  else
    (((s.offer (yieldPost c.meter)).setContact
      { c with state := .listening, noroom := true, settle := none }).changeEntry c.meter
        (RouteEntry.withState .due)).finishIdle c.meter

/-! ## Creation and eviction -/

/-- The station's peer entry is PRESENT (R95). -/
def State.peerPresent (s : State) (n : Nat) : Bool :=
  s.main.peers.any fun p => p.station == n && p.presence == .present

/-- STATE, STRAY and REREAD of a new contact (R25). -/
def State.initialStanding (s : State) (m : MeterId) (onRoute : Bool) : ContactState × Bool × Bool :=
  if onRoute then
    match (s.ret.entryOf m).map RouteEntry.state with
    | some EntryState.readHere => (.listening, false, true)
    | some (EntryState.readPeer n q) =>
      if s.peerPresent n then (.ceded { station := n, quality := q, hold := .held }, false, false)
      else (.listening, false, false)
    | _ => (.listening, false, false)
  else (.listening, true, false)

/-- A new contact for the burst `b` completed at time `t` (R23). Its arrival fields take their values when the
burst is recorded as its first counted arrival. -/
def State.newContact (s : State) (b : Burst) (t : Nat) (onRoute : Bool) : Contact :=
  let x := s.initialStanding b.meter onRoute
  { meter := b.meter, utility := b.utility, state := x.1, firstArrival := t, lastArrival := t,
    bestQuality := 0, arrivals := 0, ring := [], reading := b.reading, dials := b.dials,
    resets := b.resets, flags := 0, findings := 0, measures := none, stray := x.2.1, reread := x.2.2,
    noroom := false, solo := false, eligible := false, idlePending := false,
    idle := startTimer (s.main.cfg.idleTimeout * 1000),
    holdOff := startTimer (s.main.cfg.holdOff * 100), settle := none }

/-- `x` is evicted before `y`: earlier LAST-ARRIVAL, and with equal ones the lower METER-ID (R24). -/
def Contact.evictedBefore (x y : Contact) : Bool :=
  decide (x.lastArrival < y.lastArrival) ||
    (decide (x.lastArrival = y.lastArrival) && decide (x.meter.toNat < y.meter.toNat))

/-- The CEDED contact that eviction takes (R24). -/
def evictionVictim (cs : List Contact) : Option Contact :=
  (cs.filter Contact.isCeded).foldl
    (fun best c =>
      match best with
      | none => some c
      | some b => if c.evictedBefore b then some c else some b) none

/-- A contact can be had for a meter that has none (R15, R23, R24). -/
def State.contactAvailable (s : State) : Bool :=
  decide (s.main.contacts.length < contactLimit) || s.main.contacts.any Contact.isCeded

/-- Room made in a full contact table by evicting a CEDED contact (R24). -/
def State.evict (s : State) : State :=
  if s.main.contacts.length < contactLimit then s
  else
    match evictionVictim s.main.contacts with
    | some c => s.dropContact c.meter
    | none => s

/-- The contact for the burst `b`: the one that exists, or a new one (R15, R23, R24). -/
def State.ensureContact (s : State) (b : Burst) (t : Nat) (onRoute : Bool) : State :=
  match s.contactOf b.meter with
  | some _ => s
  | none => s.evict.addContact (s.newContact b t onRoute)

/-! ## Arrivals -/

/-- A hand-over as a counted arrival (R17). -/
structure Arrival where
  time : Nat
  quality : Nat
  burst : Burst
  onRoute : Bool
  split : Bool
  deriving DecidableEq, Repr

/-- The chatter count at time `t` with the chatter window `w` seconds (R28). -/
def chatterCount (ring : List RingEntry) (t w : Nat) : Nat :=
  1 + ring.countP fun e => decide (t < e.time + w * 1000)

/-- The evaluation of a counted arrival (R41): full for an on-route arrival of a contact without STRAY, and
the stray treatment otherwise, with the entry's jitter allowance or 0 (R56). -/
def State.evaluate (s : State) (c : Contact) (x : Arrival) : EvalResult :=
  let v := c.ring.getLast?.map RingEntry.reading
  match s.ret.entryOf c.meter with
  | some e =>
    if x.onRoute && !c.stray then
      evalFull { n := x.burst.reading, d := x.burst.dials, k := x.burst.resets, p := e.p, dr := e.dr,
                 a := e.a, c := e.c, b := e.b, kr := e.kr, z := e.z, v := v, t := s.ret.routeClock,
                 s := s.main.cfg.stallAge }
    else evalStray x.burst.reading x.burst.dials e.b v
  | none => evalStray x.burst.reading x.burst.dials 0 v

/-- The findings a counted arrival adds (R29). -/
def State.arrivalFindings (s : State) (c : Contact) (x : Arrival) : FindingSet :=
  findingsOfFlags x.burst.flags ||| findingIf x.split .split |||
    findingIf (decide (s.main.cfg.limit < chatterCount c.ring x.time s.main.cfg.window)) .chatter |||
    (s.evaluate c x).findings

/-- The ring after a push (R27). -/
def pushRing (ring : List RingEntry) (e : RingEntry) : List RingEntry :=
  (ring ++ [e]).drop ((ring ++ [e]).length - ringLimit)

/-- The contact after steps 1 to 4 of a counted arrival (R26). -/
def State.recordArrival (s : State) (c : Contact) (x : Arrival) : Contact :=
  { c with
    utility := x.burst.utility, reading := x.burst.reading, dials := x.burst.dials,
    resets := x.burst.resets, flags := c.flags ||| x.burst.flags,
    lastArrival := max c.lastArrival x.time, bestQuality := max c.bestQuality x.quality,
    arrivals := min (c.arrivals + 1) max16, findings := c.findings ||| s.arrivalFindings c x,
    measures := (s.evaluate c x).measures,
    ring := pushRing c.ring { time := x.time, counter := x.burst.counter,
                              reading := x.burst.reading, flags := x.burst.flags },
    idle := startTimer (s.main.cfg.idleTimeout * 1000), idlePending := false }

/-- Step 5 of a counted arrival: the open record of a HELD contact follows it, and the alert test is made
(R38, R62). -/
def State.followRecord (s : State) (c : Contact) : State :=
  match c.state with
  | .held q => (s.write (Retained.updateRecord c q)).raise q
  | _ => s

/-- The contact reaches claim eligibility (R34): at its second counted arrival, or, with hold-off 0, as soon
as an arrival has been recorded. -/
def State.becomesEligible (s : State) (c : Contact) : Bool :=
  decide (2 ≤ c.arrivals) || decide (s.main.cfg.holdOff = 0)

/-- The contact with ELIGIBLE set and its hold-off timer stopped (R34). -/
def Contact.nowEligible (c : Contact) : Contact := { c with eligible := true, holdOff := none }

/-- Step 6 of a counted arrival: claim eligibility, and a claim attempt where R35 calls for one. -/
def State.judgeEligibility (s : State) (c : Contact) : State :=
  if c.eligible then s.attemptClaim c.meter
  else if s.becomesEligible c then (s.setContact c.nowEligible).attemptClaim c.meter
  else s

/-- A counted arrival at the contact of its meter (R26). -/
def State.countedArrival (s : State) (x : Arrival) : State :=
  match s.contactOf x.burst.meter with
  | none => s
  | some c =>
    let c' := s.recordArrival c x
    ((s.setContact c').followRecord c').judgeEligibility c'

/-- The contact after a duplicate arrival (R30). -/
def State.recordDuplicate (s : State) (c : Contact) (t q : Nat) : Contact :=
  { c with
    bestQuality := max c.bestQuality q, lastArrival := max c.lastArrival t,
    idle := startTimer (s.main.cfg.idleTimeout * 1000), idlePending := false }

/-- A duplicate arrival at the contact of meter `m` (R30). -/
def State.duplicateArrival (s : State) (m : MeterId) (t q : Nat) : State :=
  match s.contactOf m with
  | none => s
  | some c =>
    let c' := s.recordDuplicate c t q
    let u := s.setContact c'
    match c'.state with
    | .held n => u.write fun r => r.updRecord n (Record.followDuplicate r c')
    | _ => u

end Sys2Proof.Machine
end

