-- ==== Sys2Proof/Machine/Bursts.lean ====
section
/-! DEFINITION. The burst ports and burst acceptance (chapter 1): FRAME_COMPLETE and TAKE. -/

namespace Sys2Proof.Machine

/-! ## Frames -/

/-- A completed frame stored in its port, or one frame lost to overrun by the port's policy (R3, R4). -/
def PortState.store (x : PortState) (keepNewest : Bool) (f : Frame) : PortState :=
  if x.slots.length < portSlotLimit then { x with slots := x.slots ++ [f] }
  else
    { x with
      slots := if keepNewest then x.slots.drop 1 ++ [f] else x.slots
      counters := { x.counters with overrun := x.counters.overrun + 1 } }

/-- The frame record of the bits clocked while frame-valid was high, completed at time `t` (R1). -/
def frameOf (bits : List Bool) (t : Nat) : Frame :=
  { bytes := (packBits bits).take 15, isExact := bits.length == 120, time := t }

/-- The frame-valid input of a port, as last seen. -/
def Pins.frameValid (x : Pins) : Port → Bool
  | .a => x.frameValidA
  | .b => x.frameValidB

/-- The frame-valid input of a port, seen at `level`. -/
def Pins.setFrameValid (x : Pins) (port : Port) (level : Bool) : Pins :=
  match port with
  | .a => { x with frameValidA := level }
  | .b => { x with frameValidB := level }

/-- The bits of the frame in progress on a port after `bits` more are clocked (R1, R5). A running port begins a
frame at a rise of frame-valid; a frame under way is gone on with only by the port that holds it, since stopping or a
flush has ended it and a port that begins to run does not pick it up. -/
def State.clockedFrame (s : State) (port : Port) (bits : List Bool) : Option (List Bool) :=
  if s.portRuns port = false then none
  else if s.pins.frameValid port then (s.main.port port).receiving.map (· ++ bits)
  else some bits

/-- The frame whose bits are `frame` has completed (R1, R3, R4); without a bit there is none. -/
def State.frameCompleted (s : State) (port : Port) (frame : List Bool) : State :=
  if frame.isEmpty then s
  else
    s.setPort port ((s.main.port port).store (portSettings s.main.cfg port).keepNewest
      (frameOf frame s.ret.stationClock))

/-- A stretch of a port's line activity (R1, R5): `bits` are clocked while frame-valid is high, and with `falls` it
falls then, which completes the frame the port has gathered. -/
def State.lineStretch (s : State) (port : Port) (bits : List Bool) (falls : Bool) : State :=
  let frame := s.clockedFrame port bits
  let t : State := { s with pins := s.pins.setFrameValid port (!falls) }
  if falls then
    (t.setPort port { t.main.port port with receiving := none }).frameCompleted port (frame.getD [])
  else t.setPort port { t.main.port port with receiving := frame }

/-- FRAME_COMPLETE (R1, R3, R4, R5): `wait` milliseconds pass, then the stretch of line activity. -/
def execFrameComplete (port : Port) (wait : Nat) (bits : List Bool) (falls : Bool) (s : State) :
    Host.Outcome State Fault Refusal :=
  done ((s.begin.passTime wait).lineStretch port bits falls)

/-! ## Dispositions -/

/-- The ten dispositions, in the order of the checks (section 1.3). -/
inductive Disposition where
  | malformedLength
  | checkFailed
  | malformed
  | filtered
  | sagDropped
  | closingDropped
  | strayDropped
  | refusedFull
  | duplicate
  | accepted
  deriving DecidableEq, Repr

/-- A disposition counter rises by one (R18). -/
def PortCounters.count (c : PortCounters) : Disposition → PortCounters
  | .malformedLength => { c with malformedLength := c.malformedLength + 1 }
  | .checkFailed => { c with checkFailed := c.checkFailed + 1 }
  | .malformed => { c with malformed := c.malformed + 1 }
  | .filtered => { c with filtered := c.filtered + 1 }
  | .sagDropped => { c with sagDropped := c.sagDropped + 1 }
  | .closingDropped => { c with closingDropped := c.closingDropped + 1 }
  | .strayDropped => { c with strayDropped := c.strayDropped + 1 }
  | .refusedFull => { c with refusedFull := c.refusedFull + 1 }
  | .duplicate => { c with duplicate := c.duplicate + 1 }
  | .accepted => { c with accepted := c.accepted + 1 }

/-- What acceptance finds of a burst: its disposition, the on-route judgement and SPLIT (R17). -/
structure Verdict where
  disposition : Disposition
  onRoute : Bool
  split : Bool
  deriving DecidableEq, Repr

/-- The filter passes a well-formed burst (R12, check 4). -/
def filterPasses (c : Settings) (b : Burst) : Bool :=
  c.acceptMask.getLsbD b.utility && (b.meter &&& c.prefixMask) == c.prefixValue

/-- The burst is on-route (R14). -/
def State.onRoute (s : State) (b : Burst) : Bool := (s.ret.runningEntryOf b.meter).isSome

/-- d = (c − c0) mod 256 (R16). -/
def counterStep (c c0 : Nat) : Nat := (c + 256 - c0) % 256

/-- The duplicate and counter test against the newest ring entry (R16, check 9): the disposition and SPLIT. -/
def counterTest (ring : List RingEntry) (b : Burst) : Disposition × Bool :=
  match ring.getLast? with
  | none => (.accepted, false)
  | some e =>
    let d := counterStep b.counter e.counter
    if d = 0 then
      if b.reading = e.reading ∧ b.flags = e.flags then (.duplicate, false) else (.accepted, true)
    else (.accepted, decide (128 ≤ d))

/-- The ten checks in order on a frame of a port (R10 to R16). -/
def State.judge (s : State) (f : Frame) : Verdict :=
  let b := decodeBurst f.bytes
  let on := s.onRoute b
  let drop := fun d => ({ disposition := d, onRoute := on, split := false } : Verdict)
  if !f.isExact then drop .malformedLength
  else if !burstCheckOk f.bytes then drop .checkFailed
  else if !burstValid b then drop .malformed
  else if !filterPasses s.main.cfg b then drop .filtered
  else if s.main.supply = .sag then drop .sagDropped
  else if s.ret.routeState = .closing then drop .closingDropped
  else if !on && !s.main.cfg.strayCapture then drop .strayDropped
  else
    match s.contactOf b.meter with
    | none => if s.contactAvailable then drop .accepted else drop .refusedFull
    | some c => { disposition := (counterTest c.ring b).1, onRoute := on,
                  split := (counterTest c.ring b).2 }

/-- The disposition counter of a port rises (R7, R18). -/
def State.countDisposition (s : State) (p : Port) (d : Disposition) : State :=
  s.setPort p { s.main.port p with counters := (s.main.port p).counters.count d }

/-- The hand-over of a burst to its contact (R17). -/
def State.handOver (s : State) (p : Port) (f : Frame) (v : Verdict) : State :=
  let b := decodeBurst f.bytes
  let q := burstQuality f.bytes (portSettings s.main.cfg p).levelOffset
  match v.disposition with
  | .accepted =>
    (s.ensureContact b f.time v.onRoute).countedArrival
      { time := f.time, quality := q, burst := b, onRoute := v.onRoute, split := v.split }
  | .duplicate => s.duplicateArrival b.meter f.time q
  | _ => s

/-- Acceptance takes the oldest stored frame of a port (R7): it leaves its slot, is judged against the state at
the take, is counted and is handed on. -/
def State.takeFrom (s : State) (p : Port) : State :=
  match (s.main.port p).slots with
  | [] => s
  | f :: rest =>
    let t := s.setPort p { s.main.port p with slots := rest }
    (t.countDisposition p (s.judge f).disposition).handOver p f (s.judge f)

/-- TAKE (R7 to R19) from `port`; without a stored frame there is nothing to take. -/
def execTake (port : Port) (s : State) : Host.Outcome State Fault Refusal :=
  done (s.begin.takeFrom port)

end Sys2Proof.Machine
end

