-- ==== Sys2Proof/Machine/ContactTimers.lean ====
section
/-! DEFINITION. The timers of a contact: IDLE_EXPIRY, HOLD_OFF_EXPIRY and SETTLE_EXPIRY (chapters 2
and 6). A timer that still has time left runs it out first: that much time passes (log entry 2). -/

namespace Sys2Proof.Machine

/-- The idle timer of the contact `c` has run out (R32, R33). -/
def State.idleExpired (s : State) (c : Contact) : State :=
  if c.state = .claiming then s.setContact { c with idlePending := true, idle := none }
  else s.removeContact c.meter

/-- The hold-off timer of the contact `c` has run out (R34, R35). -/
def State.holdOffExpired (s : State) (c : Contact) : State :=
  (s.setContact c.nowEligible).attemptClaim c.meter

/-- The settle timer of the contact `c` has run out (R107, R108): it runs while the contact is CLAIMING. -/
def State.settleExpired (s : State) (c : Contact) : State :=
  if c.state = .claiming then s.settleContact c else s

/-- The expiry of the timer `timer` of the contact of meter `m`, with the effect `act`. A timer that does not
run does not expire. -/
def State.contactExpiry (s : State) (m : MeterId) (timer : Contact → Timer)
    (act : State → Contact → State) : State :=
  match s.contactOf m with
  | none => s
  | some c =>
    match timer c with
    | none => s
    | some left => act (s.passTime left) (c.passTime left)

/-- IDLE_EXPIRY (R31 to R33). -/
def execIdleExpiry (meter : MeterId) (s : State) : Host.Outcome State Fault Refusal :=
  done (s.begin.contactExpiry meter Contact.idle State.idleExpired)

/-- HOLD_OFF_EXPIRY (R34, R35). -/
def execHoldOffExpiry (meter : MeterId) (s : State) : Host.Outcome State Fault Refusal :=
  done (s.begin.contactExpiry meter Contact.holdOff State.holdOffExpired)

/-- SETTLE_EXPIRY (R106 to R108). -/
def execSettleExpiry (meter : MeterId) (s : State) : Host.Outcome State Fault Refusal :=
  done (s.begin.contactExpiry meter Contact.settle State.settleExpired)

end Sys2Proof.Machine
end

