-- ==== Sys2Proof/Machine/Hearing.lean ====
section
/-! DEFINITION. The line as the receiver follows it (R85, R187), and what the receiver does with every valid post before
it is acted on (R87, R96, R188). -/

namespace Sys2Proof.Machine

/-! ## The line -/

/-- A stretch is discarded (R86). -/
def State.discardStretch (s : State) : State :=
  { s with main := { s.main with linkCheck := s.main.linkCheck + 1 } }

/-- The line has been quiet for `quiet` microseconds outside an attempt of this station: after a quiet gap the stretch
under way is over, and one that was heard, whose CHECK has not come, is discarded (R86). That a stretch is over is taken
up when a command tells of the quiet after it (DESIGN CHOICE, log entry 16). -/
def State.lineSilent (s : State) (quiet : Nat) : State :=
  if s.inAttempt = false ∧ quietGapUs ≤ quiet then
    (if s.pins.line = .heard then s.discardStretch else s).setLine .quiet
  else s

/-- The line once activity has started on it after `quiet` microseconds of quiet (R85): a stretch begun after a quiet
gap is heard when the receiver is receptive, and missed when it is not; without the gap the stretch under way goes on,
and activity that follows a post is missed. The line of an attempt of this station carries that attempt. Of a rise of
IGN in PARKED that comes together with line activity (R190), the row with IGN first, whose post is not received, is
WAKE and then IGN_RISING_EDGE, as the row with the activity first: activity that WAKE gives after the edge begins after
it and is heard (DESIGN CHOICE, log entry 12). -/
def State.lineStarted (s : State) (quiet : Nat) : LinkLine :=
  if s.inAttempt then s.pins.line
  else if quietGapUs ≤ quiet then if s.awake then .heard else .missed
  else if s.pins.line = .heard then .heard
  else .missed

/-- Line activity that starts after `quiet` microseconds of quiet (R85, R86, R187): what the quiet ended is over, and
in PARKED, after a quiet gap, the station goes to LINK-AWAKE and the wake-settle timer starts. -/
def State.lineActive (s : State) (quiet : Nat) : State :=
  let t := (s.lineSilent quiet).setLine (s.lineStarted quiet)
  if s.powered = true ∧ s.main.park = .parked ∧ quietGapUs ≤ quiet then
    { t with main := { t.main with park := .linkAwake, wakeSettle := startTimer wakeSettleMs } }
  else t

/-! ## The sender -/

/-- Hearing a peer (R96): its entry becomes PRESENT, takes the role, and its silence timer restarts. -/
def State.hearPeer (s : State) (src : Nat) (role : Role) : State :=
  { s with main := { s.main with
      peers := s.main.peers.map fun p =>
        if p.station = src then
          { p with presence := .present, role := some role,
                   silence := startTimer (s.main.cfg.peerSilence * 1000) }
        else p } }

/-- The station enters MUTE (R92). -/
def State.enterMute (s : State) : State := { s with main := { s.main with mute := true } }

/-- The judgement by its sender of a valid post that is received (R87), and then `act` when the post is another
station's. -/
def State.judgeSender (s : State) (src : Nat) (role : Option Role) (act : State → State) : State :=
  match role with
  | none => s
  | some r =>
    if src = 0 then s
    else if src = s.main.strap then s.enterMute
    else act (s.hearPeer src r)

/-- A post that ends now has begun (R85, R187): with the line quiet, it began just now after a quiet gap (DEDUCED, log
entry 16). -/
def State.postBegins (s : State) : State :=
  if s.inAttempt = false ∧ s.pins.line = .quiet then s.lineActive quietGapUs else s

/-- A post begins and ends on the line without being received (R85). -/
def State.postPasses (s : State) : State := s.postBegins.postEnds

/-- A valid post ends on the line (R85, R87): it is judged by its sender when it is received. -/
def State.hear (s : State) (src : Nat) (role : Option Role) (act : State → State) : State :=
  if s.receives then s.postPasses.judgeSender src role act else s.postPasses

/-- An addressed post taken in LINK-AWAKE restarts the park-return timer (R188). -/
def State.restartParkReturn (s : State) : State :=
  if s.main.park = .linkAwake then
    { s with main := { s.main with parkReturn := startTimer (s.main.cfg.parkReturn * 1000) } }
  else s

/-- A post from another station of role `role` whose kind R88 acts on when addressed: the park-return timer
restarts, and the post is acted on. -/
def State.hearAddressed (s : State) (src : Nat) (role : Role) (act : State → State) : State :=
  s.hear src (some role) fun t => act t.restartParkReturn

/-- The same for a kind that R88 acts on from a console or a dock: from a collector the post is ignored. -/
def State.hearQuery (s : State) (src : Nat) (role : Role) (act : State → State) : State :=
  s.hear src (some role) fun t => if role = .collector then t else act t.restartParkReturn

end Sys2Proof.Machine
end

