-- ==== Sys2Proof/Machine/DrainOps.lean ====
section
/-! DEFINITION. The drain engine's shared operations (chapter 9). -/

namespace Sys2Proof.Machine

/-- The drain engine replaced. -/
def State.setDrain (s : State) (d : Drain) : State := { s with main := { s.main with drain := d } }

/-- DRAIN-MARK of the records `seqs` set to `m`, one write per record, in the order given (R166, R168). -/
def State.markAll (s : State) (m : DrainMark) (seqs : List Nat) : State :=
  seqs.foldl (fun u q => u.write fun r => r.updRecord q (Record.withMark m)) s

/-- The engine's post is dealt with by where it stands (R166, step 2). -/
def State.clearDrainPost (s : State) : State :=
  match s.main.drain.post with
  | .none => s
  | .waiting => s.setDrain { s.main.drain with post := .none }
  | .queued =>
    (s.withdraw PostBody.isDrain).setDrain { s.main.drain with post := .none }
  | .current =>
    if s.inAttempt then s.reachCurrent PostBody.isDrain
    else (s.reachCurrent PostBody.isDrain).setDrain { s.main.drain with post := .none }

/-- Clearing a batch (R166). -/
def State.clearBatch (s : State) : State :=
  let t := (s.markAll .unsent s.main.drain.batch).clearDrainPost
  t.setDrain { t.main.drain with commitWait := none, batch := [], position := 0 }

/-- An early end of a drain: the batch is cleared and the engine is IDLE with DOCK absent (section 9.4). In
IDLE the engine stays as it is. -/
def State.endDrain (s : State) : State :=
  if s.main.drain.state = .idle then s
  else
    let t := s.clearBatch
    t.setDrain { t.main.drain with state := .idle, dock := none }

/-- The lowest and highest sequence of a batch, absent when it is empty (R169). -/
def batchEnds (batch : List Nat) : Option (Nat × Nat) :=
  match batch.head?, batch.getLast? with
  | some a, some b => some (a, b)
  | _, _ => none

/-- The body of the batch's next post, composed from the log as it stands (R169, R170). -/
def State.nextDrainBody (s : State) : Option PostBody :=
  match s.main.drain.batch[s.main.drain.position]? with
  | some q => (s.ret.recordOf q).map PostBody.record
  | none => some (.batchEnd s.main.drain.batch.length (batchEnds s.main.drain.batch))

/-- The engine offers the batch's next post (R169): it enters the tail of class 3 addressed to DOCK, or it is
held WAITING for want of a place. -/
def State.offerDrainPost (s : State) : State :=
  match s.nextDrainBody with
  | none => s
  | some b =>
    if s.queueRoom then
      (s.enqueue { mask := maskOf (s.main.drain.dock.getD 0), body := b }).setDrain
        { s.main.drain with post := .queued }
    else s.setDrain { s.main.drain with post := .waiting }

/-- The records a batch takes: the first sixteen CLOSED and UNSENT ones in ascending SEQUENCE (R168). -/
def Retained.batchChoice (r : Retained) : List Nat :=
  ((r.log.filter fun x => x.openState == .closed && x.mark == .unsent).map Record.seq).take batchLimit

/-- Forming a batch (R168). The first post waits while a post of an earlier batch is still CURRENT (R169). -/
def State.formBatch (s : State) : State :=
  let batch := s.ret.batchChoice
  let t := s.markAll .sentInBatch batch
  let u := t.setDrain { t.main.drain with batch := batch, position := 0, state := .sending }
  if u.main.drain.post = .current then u else u.offerDrainPost

/-- DRAIN-OPEN from the dock `src` (R167). -/
def State.openDrain (s : State) (src : Nat) : State :=
  let t := if s.main.drain.state = .idle then s else s.clearBatch
  (t.setDrain { t.main.drain with dock := some src }).formBatch

/-- The engine takes the end of an attempt of a post of a cleared batch (R166): DRAIN-POST becomes none, and
the first post of a batch formed meanwhile is offered. -/
def State.clearedPostEnded (s : State) : State :=
  let t := s.setDrain { s.main.drain with post := .none }
  if t.main.drain.state = .sending then t.offerDrainPost else t

/-- The engine's RECORD has been sent (R170). -/
def State.recordTransmitted (s : State) : State :=
  (s.setDrain { s.main.drain with post := .none, position := s.main.drain.position + 1 }).offerDrainPost

/-- The engine's BATCH-END with COUNT `count` has been sent (R171). -/
def State.batchEndTransmitted (s : State) (count : Nat) : State :=
  if count = 0 then
    s.setDrain { s.main.drain with post := .none, state := .idle, dock := none }
  else
    s.setDrain { s.main.drain with
      post := .none, state := .awaitCommit,
      commitWait := startTimer (s.main.cfg.commitWait * 1000) }

/-- The engine's post has been discarded after sixteen losses (R177). -/
def State.drainPostDiscarded (s : State) : State :=
  (s.setDrain { s.main.drain with post := .none }).endDrain

/-! ## Commit -/

/-- The members of BATCH that a COMMIT of `v` releases (R173). -/
def State.releasedBy (s : State) (v : Nat) : List Nat := s.main.drain.batch.filter fun q => decide (q ≤ v)

/-- The one write of a COMMIT (R173): the members at or below `v` leave the log, and the others return to
UNSENT. -/
def Retained.commit (batch : List Nat) (v : Nat) (r : Retained) : Retained :=
  { r with log := (r.log.filter fun x => !(batch.contains x.seq && decide (x.seq ≤ v))).map fun x =>
      if batch.contains x.seq then x.withMark .unsent else x }

/-- The alert unit's part of the release of the record `seq` in alert state `a` (R68). -/
def State.releaseAlert (s : State) (seq : Nat) (a : AlertState) : State :=
  let counted : State :=
    { s with main := { s.main with alertsReleased := s.main.alertsReleased + 1 } }
  match a with
  | .none => s
  | .acked => s
  | .pending => counted
  | .slotted =>
    match counted.main.slots.slotOf seq with
    | some i => counted.freeSlot i
    | none => counted

/-- The alert states of the records a COMMIT of `v` releases, as they stood (R68). -/
def State.releasedAlerts (s : State) (v : Nat) : List (Nat × AlertState) :=
  (s.ret.log.filter fun x => (s.releasedBy v).contains x.seq).map fun x => (x.seq, x.alert)

/-- COMMIT from the dock `src` with the value `v` (R173, R174, R175, R68). The next batch's first RECORD is offered
here, before any promotion into a slot the COMMIT frees; section 9.7 lets either come first (DESIGN CHOICE,
log entry 12). -/
def State.commitDrain (s : State) (src v : Nat) : State :=
  if s.main.drain.state = .awaitCommit ∧ s.main.drain.dock = some src then
    let t := s.write (Retained.commit s.main.drain.batch v)
    let u := (s.releasedAlerts v).foldl (fun w x => w.releaseAlert x.1 x.2) t
    (u.setDrain { u.main.drain with commitWait := none, batch := [], position := 0 }).formBatch
  else s

/-- DRAIN-CLOSE from the dock `src` (R176). -/
def State.closeDrain (s : State) (src : Nat) : State :=
  if s.main.drain.state ≠ .idle ∧ s.main.drain.dock = some src then s.endDrain else s

end Sys2Proof.Machine
end

