-- ==== Sys2Proof/Machine/Formats.lean ====
section
/-! DEFINITION. The bytes of every post the part sends (R201, sections 11.2 to 11.4). -/

namespace Sys2Proof.Machine

/-- The value `v` in `n` bytes, most significant byte first (section 11). -/
def beBytes : Nat → Nat → List Byte
  | 0, _ => []
  | n + 1, v => BitVec.ofNat 8 (v / 256 ^ n) :: beBytes n v

/-- A byte whose bit 7 is `b7`, bit 6 is `b6` and so on down to bit 0. -/
def bitByte (b7 b6 b5 b4 b3 b2 b1 b0 : Bool) : Byte :=
  BitVec.ofNat 8 (b7.toNat * 128 + b6.toNat * 64 + b5.toNat * 32 + b4.toNat * 16 + b3.toNat * 8 +
    b2.toNat * 4 + b1.toNat * 2 + b0.toNat)

/-- The kind of a post this station sends (R75). -/
def PostBody.kind : PostBody → Kind
  | .alert .. => .alert
  | .claim .. => .claim
  | .yield _ => .yield
  | .routeGap .. => .routeGap
  | .configReport .. => .configReport
  | .countReport .. => .countReport
  | .record _ => .record
  | .batchEnd .. => .batchEnd
  | .status => .status

/-- The code of a hold status (section 11.3). -/
def holdCode : Hold → Nat
  | .claiming => 0
  | .held => 1

/-- The code of a route state (section 11.3). -/
def routeStateCode : RouteState → Nat
  | .noRoute => 0
  | .loading => 1
  | .running => 2
  | .closing => 3
  | .closed => 4

/-- The code of a CAUSE (section 11.3). -/
def causeCode : Cause → Nat
  | .cold => 0
  | .restored => 1
  | .stationReset => 2

/-- The code of an ALERT-STATE (section 11.3). -/
def alertCode : AlertState → Nat
  | .none => 0
  | .pending => 1
  | .slotted => 2
  | .acked => 3

/-- The code of a PART (section 11.3). -/
def partCode : Part → Nat
  | .portA => 0
  | .portB => 1
  | .station => 2

/-! ## STATUS -/

/-- The contents of a STATUS (R91). -/
structure StatusFields where
  route : Nat
  routeState : RouteState
  cause : Cause
  trunc : Bool
  sagSeen : Bool
  linkAwake : Bool
  noroom : Bool
  routeRefused : Counter
  due : Nat
  readHere : Nat
  readPeer : Nat
  missed : Nat
  occupancy : Nat
  oldest : Option Nat
  pending : Nat
  slots : List (Option (MeterId × Nat))
  deriving DecidableEq, Repr

/-- The entry counts under DUE in STATUS: DUE or PEER-CLAIMING (R135). -/
def RouteEntry.countsDue (e : RouteEntry) : Bool :=
  match e.state with
  | .due => true
  | .peerClaiming _ _ => true
  | _ => false

/-- The entry is in READ-HERE. -/
def RouteEntry.isReadHere (e : RouteEntry) : Bool := e.state == .readHere

/-- The entry is in READ-PEER. -/
def RouteEntry.isReadPeer (e : RouteEntry) : Bool :=
  match e.state with
  | .readPeer _ _ => true
  | _ => false

/-- The entry is in MISSED. -/
def RouteEntry.isMissed (e : RouteEntry) : Bool :=
  match e.state with
  | .missed _ => true
  | _ => false

/-- The METER-ID and SEQUENCE of the record slot `i` holds (R73). -/
def State.slotPair (s : State) (i : Fin 4) : Option (MeterId × Nat) :=
  match s.main.slots.get i with
  | none => none
  | some q => some ((((s.ret.recordOf q).bind Record.meter).getD 0#32), q)

/-- The contents of a STATUS at the start of an attempt to send it (R91, R73, R135). -/
def State.statusFields (s : State) : StatusFields :=
  { route := s.ret.routeNumber
    routeState := s.ret.routeState
    cause := s.main.cause
    trunc := s.ret.trunc
    sagSeen := s.main.sagSeen
    linkAwake := s.main.park == .linkAwake
    noroom := s.main.contacts.any (·.noroom)
    routeRefused := s.main.routeRefused
    due := s.ret.entries.countP RouteEntry.countsDue
    readHere := s.ret.entries.countP RouteEntry.isReadHere
    readPeer := s.ret.entries.countP RouteEntry.isReadPeer
    missed := s.ret.entries.countP RouteEntry.isMissed
    occupancy := s.ret.log.length
    oldest := s.ret.log.head?.map Record.seq
    pending := s.ret.log.countP fun x => x.alert == .pending
    slots := slotNumbers.map s.slotPair }

/-- A slot pair in the STATUS body: both 0 when empty. -/
def slotBytes : Option (MeterId × Nat) → List Byte
  | none => beBytes 8 0
  | some (m, q) => beBytes 4 m.toNat ++ beBytes 4 q

/-- The STATUS body (section 11.4). -/
def statusBody (f : StatusFields) : List Byte :=
  beBytes 2 f.route ++
    [BitVec.ofNat 8 (routeStateCode f.routeState * 16 + causeCode f.cause),
     bitByte f.trunc f.sagSeen f.linkAwake f.noroom false false false false] ++
    beBytes 4 f.routeRefused.toNat ++ beBytes 2 f.due ++ beBytes 2 f.readHere ++
    beBytes 2 f.readPeer ++ beBytes 2 f.missed ++ beBytes 2 f.occupancy ++
    beBytes 4 (f.oldest.getD 0) ++ beBytes 2 f.pending ++ f.slots.flatMap slotBytes

/-! ## RECORD -/

/-- The KIND code of a record (section 11.3). -/
def recordKindCode : RecordBody → Nat
  | .read _ => 0
  | .missed _ => 1
  | .routeEnd _ => 2

/-- Byte 4 of a RECORD body. -/
def recordStateByte (x : Record) : Byte :=
  BitVec.ofNat 8 (recordKindCode x.body * 64 + (if x.openState = .closed then 32 else 0) +
    (if x.mark = .sentInBatch then 16 else 0) + alertCode x.alert)

/-- Byte 37 of a READ record's RECORD body. -/
def marksByte (f : ReadFields) : Byte :=
  bitByte f.measures.isSome true false f.marks.interrupted f.marks.double f.marks.solo
    f.marks.reread f.marks.stray

/-- ADVANCE and RATE in a RECORD body, 0 when absent: a signed two's complement and a count. -/
def measureBytes : Option Measures → List Byte
  | none => beBytes 6 0
  | some m => beBytes 4 (BitVec.ofInt 32 m.advance).toNat ++ beBytes 2 m.rate

/-- The RECORD body of a record (section 11.4). -/
def recordBody (x : Record) : List Byte :=
  beBytes 4 x.seq ++ [recordStateByte x] ++ beBytes 2 x.route ++
    match x.body with
    | .read f =>
      beBytes 4 f.meter.toNat ++ [BitVec.ofNat 8 (f.utility * 16 + f.dials)] ++ beBytes 4 f.reading ++
        measureBytes f.measures ++ [f.flags.setWidth 8] ++ beBytes 1 f.resets ++ beBytes 1 f.quality ++
        beBytes 4 (min f.firstHeard max32) ++ beBytes 4 (min f.lastHeard max32) ++
        beBytes 2 f.arrivals ++ beBytes 2 f.findings.toNat ++ [marksByte f]
    | .missed f =>
      beBytes 4 f.meter.toNat ++ [BitVec.ofNat 8 f.dials] ++ beBytes 4 f.prior ++ beBytes 6 0 ++
        beBytes 1 0 ++ beBytes 1 (f.resets.getD 0) ++ beBytes 1 0 ++ beBytes 8 0 ++ beBytes 2 0 ++
        beBytes 2 0 ++ [bitByte false f.resets.isSome false false false false false false]
    | .routeEnd f =>
      beBytes 2 f.readHere ++ beBytes 2 f.readPeer ++ beBytes 2 f.missedListed ++
        beBytes 2 f.missedUnlisted ++ beBytes 2 f.withFindings

/-! ## CONFIG-REPORT -/

/-- A port's setting byte (section 11.5). -/
def portByte (p : PortSettings) : Byte :=
  BitVec.ofNat 8 (p.enable.toNat * 128 + p.keepNewest.toNat * 64 + p.levelOffset)

/-- The thirty setting bytes of the configuration block that hold `c`, those without a setting 00h
(sections 11.4 and 11.5). -/
def settingBytes (c : Settings) : List Byte :=
  [BitVec.ofNat 8 (c.strayCapture.toNat * 128 + c.sector), portByte c.portA, portByte c.portB] ++
    beBytes 2 c.acceptMask.toNat ++ beBytes 4 c.prefixMask.toNat ++ beBytes 4 c.prefixValue.toNat ++
    beBytes 1 c.window ++ beBytes 1 c.limit ++ beBytes 1 c.idleTimeout ++ beBytes 1 c.holdOff ++
    beBytes 1 c.settle ++ beBytes 1 c.statusInterval ++ beBytes 1 c.peerSilence ++
    beBytes 1 c.threshold ++ beBytes 2 c.stallAge ++ beBytes 1 c.commitWait ++
    beBytes 1 c.parkReturn ++ beBytes 1 c.supplyLevel ++ beBytes 4 0

/-! ## Whole posts -/

/-- The body of a post (section 11.4); a STATUS takes the contents `st` formed at the attempt (R91). -/
def bodyBytes (st : StatusFields) : PostBody → List Byte
  | .alert slot seq meter findings watch severity =>
    beBytes 1 slot.val ++ beBytes 4 seq ++ beBytes 4 meter.toNat ++ beBytes 2 findings.toNat ++
      [BitVec.ofNat 8 (watch.toNat * 128 + severity)]
  | .claim meter quality hold =>
    beBytes 4 meter.toNat ++ beBytes 1 quality ++ beBytes 1 (holdCode hold)
  | .yield meter => beBytes 4 meter.toNat
  | .routeGap route missing indices =>
    beBytes 2 route ++ beBytes 2 missing ++ indices.flatMap (beBytes 2)
  | .configReport strap isDefault clamped settings =>
    BitVec.ofNat 8 (strap * 16 + isDefault.toNat * 2 + clamped.toNat) :: settingBytes settings
  | .countReport part counters =>
    beBytes 1 (partCode part) ++ counters.flatMap fun c => beBytes 4 c.toNat
  | .record r => recordBody r
  | .batchEnd count ends =>
    beBytes 1 count ++ beBytes 4 ((ends.map Prod.fst).getD 0) ++ beBytes 4 ((ends.map Prod.snd).getD 0)
  | .status => statusBody st

/-- The bytes CHECK covers: from SOURCE to the end of BODY (R74), with the header of section 11.2. -/
def coveredBytes (strap : Nat) (st : StatusFields) (p : Post) : List Byte :=
  let body := bodyBytes st p.body
  [BitVec.ofNat 8 (strap * 16 + roleCode .collector), p.body.kind.code] ++ beBytes 2 p.mask.toNat ++
    beBytes 2 body.length ++ body

/-- A whole post as the part drives it, from SYNC to CHECK (R74, R201). -/
def postBytes (strap : Nat) (st : StatusFields) (p : Post) : List Byte :=
  syncByte :: coveredBytes strap st p ++ beBytes 2 (checkWord (coveredBytes strap st p))

end Sys2Proof.Machine
end

