-- ==== Sys2Proof/Machine/Link.lean ====
section
/-! DEFINITION. The transmitter: ATTEMPT, POST_SENT, ATTEMPT_LOST and STATUS_TIMER_EXPIRY (chapter 5). -/

namespace Sys2Proof.Machine

/-- The quiet time, in microseconds, that station `n` waits before an attempt of a post with loss count `k`:
the quiet gap before the first (R76), the backoff wait after the k-th loss (R77). -/
def waitUs (n k : Nat) : Nat :=
  if k = 0 then quietGapUs else quietGapUs + (n + 16 * ((k - 1) % 4)) * backoffSlotUs

/-- The transmitter's current post replaced. -/
def State.setCurrent (s : State) (c : Option Current) : State :=
  { s with main := { s.main with current := c } }

/-- An attempt of the post `c` begins: its bytes are formed now, a STATUS with the contents of this moment
(R76, R91), no SAG has been entered since, and the line carries activity that began in the receiver's hearing (R85).
-/
def State.beginAttempt (s : State) (c : Current) : State :=
  { s with
    pins := { s.pins with line := .heard }
    main := { s.main with
      current := some { c with attempt := some (postBytes s.main.strap s.statusFields c.post) }
      sagInAttempt := false } }

/-- The transmitter takes the head `p` of the queue as its current post, leaving `rest` (R76, R80, R169). -/
def State.takeCurrent (s : State) (p : Post) (rest : List Post) : State :=
  { s with main := { s.main with
      queue := rest
      drain := if p.body.isDrain then { s.main.drain with post := .current } else s.main.drain } }

/-- With the wait that applies run after `quiet` microseconds of quiet, an attempt begins (R76), with the head of the
queue when there is no current post. -/
def State.attemptDue (s : State) (quiet : Nat) : State :=
  match s.main.current with
  | some c => if waitUs s.main.strap c.losses ≤ quiet then s.beginAttempt c else s
  | none =>
    if quiet < quietGapUs then s
    else
      match takeHead s.main.queue with
      | none => s
      | some (p, rest) =>
        (s.takeCurrent p rest).beginAttempt
          { post := p, losses := 0, attempt := none, dropAtLoss := false }

/-- The line has been quiet for `quiet` microseconds: what the quiet ended is over (R86), and an attempt begins when
starting is allowed and the wait that applies has run (R76, R79). -/
def State.attemptAfter (s : State) (quiet : Nat) : State :=
  if s.inAttempt then s
  else if s.mayStart then (s.lineSilent quiet).attemptDue quiet
  else s.lineSilent quiet

/-- ATTEMPT (R76, R79, R80, R86, R91). -/
def execAttempt (quiet : Nat) (s : State) : Host.Outcome State Fault Refusal :=
  done (s.begin.attemptAfter quiet)

/-- The block that queued a post is told that it was sent (R76): a STATUS clears SAG-SEEN (R91), which stays set
for a SAG entered after this STATUS took its contents, so that the next one carries it (R183; DEDUCED, log entry 13);
and the drain engine goes on (R170, R171, R166). -/
def State.tellSent (s : State) (c : Current) : State :=
  match c.post.body with
  | .status => { s with main := { s.main with sagSeen := s.main.sagInAttempt } }
  | .record _ => if c.dropAtLoss then s.clearedPostEnded else s.recordTransmitted
  | .batchEnd n _ => if c.dropAtLoss then s.clearedPostEnded else s.batchEndTransmitted n
  | _ => s

/-- The attempt in progress completes (R76): the post leaves the transmitter as sent, and has ended on the line. -/
def State.attemptSent (s : State) : State :=
  match s.main.current with
  | none => s
  | some c => if c.attempt.isSome then ((s.setCurrent none).setLine .quiet).tellSent c else s

/-- POST_SENT (R76). Without an attempt in progress nothing can be sent. -/
def execPostSent (s : State) : Host.Outcome State Fault Refusal := done s.begin.attemptSent

/-- The attempt in progress is lost (R76 to R78, R82, R83): a replaced or withdrawn post is dropped, the
sixteenth loss discards the post, and otherwise the post stays current with its loss count raised. The post of the
other station goes on, and the receiver goes on to receive it (R85). -/
def State.attemptFailed (s : State) : State :=
  match s.main.current with
  | none => s
  | some c =>
    if c.attempt.isNone then s
    else if c.dropAtLoss then
      let t := s.setCurrent none
      if c.post.body.isDrain then t.clearedPostEnded else t
    else if lossLimit ≤ c.losses + 1 then
      let t := s.setCurrent none
      let u : State := { t with main := { t.main with linkDrop := t.main.linkDrop + 1 } }
      if c.post.body.isDrain then u.drainPostDiscarded else u
    else s.setCurrent (some { c with losses := c.losses + 1, attempt := none })

/-- ATTEMPT_LOST (R77, R78). -/
def execAttemptLost (s : State) : Host.Outcome State Fault Refusal := done s.begin.attemptFailed

/-- The status timer expires after the time it has left (R90): a STATUS is offered. -/
def State.statusTimerExpired (s : State) : State :=
  match s.main.statusTimer with
  | none => s
  | some left => (s.passTime left).offerStatus

/-- STATUS_TIMER_EXPIRY (R90). -/
def execStatusTimerExpiry (s : State) : Host.Outcome State Fault Refusal :=
  done s.begin.statusTimerExpired

end Sys2Proof.Machine
end

