-- ==== Sys2Proof/Machine/Alerts.lean ====
section
/-! DEFINITION. The alert unit: PROMOTION and ALERT_ACK; and the two kinds that R88 acts on with nothing
beyond the peer table, STATUS and ALERT (chapter 4, R88). -/

namespace Sys2Proof.Machine

/-- The PENDING record with the lowest sequence number (R64). -/
def Retained.oldestPending (r : Retained) : Option Record :=
  r.log.find? fun x => x.alert == .pending

/-- The findings of a record; a MISSED or ROUTE-END record has none. -/
def Record.findings (x : Record) : FindingSet :=
  match x.body with
  | .read f => f.findings
  | _ => 0#12

/-- The ALERT of the record `x` promoted to slot `i`, composed now (R65). -/
def alertPost (r : Retained) (i : Fin 4) (x : Record) : Post :=
  { mask := maskAll
    body := .alert i x.seq (x.meter.getD 0#32) x.findings (r.watched (x.meter.getD 0#32))
      ((highestSeverity x.findings).getD 0) }

/-- The record `x` takes the slot `i`, becomes SLOTTED, and its ALERT enters the queue (R64). -/
def State.promoteTo (s : State) (i : Fin 4) (x : Record) : State :=
  let t : State := { s with main := { s.main with slots := s.main.slots.set i (some x.seq) } }
  (t.write fun r => r.updRecord x.seq (Record.withAlert .slotted)).enqueue (alertPost s.ret i x)

/-- Promotion (R64), when its four conditions hold together: an empty slot, a PENDING record, no MUTE and room
in the queue. -/
def State.promote (s : State) : State :=
  if s.powered = false ∨ s.main.mute = true ∨ s.queueRoom = false then s
  else
    match s.main.slots.lowestEmpty, s.ret.oldestPending with
    | some i, some x => s.promoteTo i x
    | _, _ => s

/-- PROMOTION (R64, R65). -/
def execPromotion (s : State) : Host.Outcome State Fault Refusal := done s.begin.promote

/-- The slot an ALERT-ACK names; absent for a value outside 0–3 (R67, R202). -/
def slotOfByte (b : Byte) : Option (Fin 4) :=
  if h : b.toNat < 4 then some ⟨b.toNat, h⟩ else none

/-- An ALERT-ACK for slot `slot` and sequence `seq` (R67): matched, the slot is emptied and the record becomes
ACKED; otherwise it is ignored. -/
def State.ackAlert (s : State) (slot : Byte) (seq : Nat) : State :=
  match slotOfByte slot with
  | none => s
  | some i =>
    if s.main.slots.get i = some seq then
      (s.freeSlot i).write fun r => r.updRecord seq (Record.withAlert .acked)
    else s

/-- ALERT_ACK (R67). -/
def execAlertAck (src : BitVec 4) (slot : Byte) (seq : BitVec 32) (s : State) :
    Host.Outcome State Fault Refusal :=
  done (s.begin.hearAddressed src.toNat .console fun t => t.ackAlert slot seq.toNat)

/-- STATUS (R88): nothing beyond the peer table. -/
def execStatus (src : BitVec 4) (role : Role) (s : State) : Host.Outcome State Fault Refusal :=
  done (s.begin.hear src.toNat (some role) fun t => t)

/-- ALERT (R88): nothing beyond the peer table. -/
def execAlert (src : BitVec 4) (role : Role) (s : State) : Host.Outcome State Fault Refusal :=
  done (s.begin.hear src.toNat (some role) fun t => t)

end Sys2Proof.Machine
end

