-- ==== Sys2Proof/Machine/Claims.lean ====
section
/-! DEFINITION. Hearing claims: CLAIM, YIELD and SILENCE (chapter 6). -/

namespace Sys2Proof.Machine

/-- A claim `c` from the named station, or one that beats `k`, takes the place of `k` (R98, R111): a CLAIMING
claim does not replace a HELD claim of its own station. -/
def Claim.replaces (c k : Claim) : Bool :=
  if c.station = k.station then !(c.hold == .claiming && k.hold == .held) else c.beats k

/-- The entry state after a CLAIMING claim `c` is recorded (R112, R113, R117). -/
def EntryState.noteClaiming (c : Claim) (x : EntryState) : EntryState :=
  match x with
  | .due => .peerClaiming c.station c.quality
  | .peerClaiming n q =>
    if c.replaces { station := n, quality := q, hold := .claiming } then
      .peerClaiming c.station c.quality
    else x
  | _ => x

/-- The entry state after a HELD claim `c` heard without a contact (R117). -/
def EntryState.noteHeld (c : Claim) (x : EntryState) : EntryState :=
  match x with
  | .due => .readPeer c.station c.quality
  | .peerClaiming _ _ => .readPeer c.station c.quality
  | .readPeer n _ => if c.station = n then .readPeer c.station c.quality else x
  | _ => x

/-- The meter's entry takes the state `f` gives, one write, while the route is RUNNING. -/
def State.changeEntryState (s : State) (m : MeterId) (f : EntryState → EntryState) : State :=
  s.changeEntry m fun e => { e with state := f e.state }

/-- The contact `x` cedes to the claim `c`, and the entry follows (R100, R112, R113). -/
def State.cede (s : State) (x : Contact) (c : Claim) : State :=
  (s.setContact { x with state := .ceded c, settle := none }).changeEntryState x.meter
    (EntryState.afterCession c)

/-- The record `x` with DOUBLE set (R115). -/
def Record.markDouble (x : Record) : Record :=
  match x.body with
  | .read f => { x with body := .read { f with marks := { f.marks with double := true } } }
  | _ => x

/-- DOUBLE on the newest READ record for the meter still in the log, and on the entry while the route is
RUNNING (R115). -/
def Retained.markDouble (m : MeterId) (r : Retained) : Retained :=
  let t := match r.newestReadOf m with
    | some q => r.updRecord q Record.markDouble
    | none => r
  t.updRunningEntry m fun e => { e with double := true }

/-- A claim `c` for a meter held here, with the contact's BEST-QUALITY or 0 as `quality`: a re-assertion
answers a CLAIMING claim (R114), and a HELD claim marks DOUBLE, one write (R115). -/
def State.answerAsHolder (s : State) (m : MeterId) (quality : Nat) (c : Claim) : State :=
  match c.hold with
  | .claiming => s.offer (claimPost m quality .held)
  | .held => s.write (Retained.markDouble m)

/-- The entry of meter `m` is READ-HERE while the route is RUNNING (R114). -/
def State.entryReadHere (s : State) (m : MeterId) : Bool :=
  match s.ret.runningEntryOf m with
  | some e => e.state == .readHere
  | none => false

/-- A LISTENING contact takes a claim (R112; R110 for a contact whose entry is READ-HERE). -/
def State.claimAtListening (s : State) (x : Contact) (c : Claim) : State :=
  if s.entryReadHere x.meter then s.answerAsHolder x.meter x.bestQuality c
  else if c.hold = .held ∨ c.beats (s.ownClaim x) = true then s.cede x c
  else s.changeEntryState x.meter (EntryState.noteClaiming c)

/-- A CLAIMING contact takes a claim (R113, R33). -/
def State.claimAtClaiming (s : State) (x : Contact) (c : Claim) : State :=
  if c.hold = .held ∨ c.beats (s.ownClaim x) = true then (s.cede x c).finishIdle x.meter
  else
    (s.offer (claimPost x.meter x.bestQuality .claiming)).changeEntryState x.meter
      (EntryState.noteClaiming c)

/-- A CEDED contact takes a claim (R116, R111). -/
def State.claimAtCeded (s : State) (x : Contact) (k c : Claim) : State :=
  if c.replaces k then
    (s.setContact { x with state := .ceded c }).changeEntryState x.meter (EntryState.afterCession c)
  else s

/-- A claim reaches the entry of a meter without a contact (R117, R114, R115). -/
def State.claimAtEntry (s : State) (m : MeterId) (c : Claim) : State :=
  match s.ret.runningEntryOf m with
  | none => s
  | some e =>
    if e.state = .readHere then s.answerAsHolder m 0 c
    else
      match c.hold with
      | .claiming => s.changeEntryState m (EntryState.noteClaiming c)
      | .held => s.changeEntryState m (EntryState.noteHeld c)

/-- Placing a CLAIM (R110); while the route is CLOSING (R99), and for an invalid METER-ID (R202), it has no
effect. -/
def State.placeClaim (s : State) (m : MeterId) (c : Claim) : State :=
  if s.ret.routeState = .closing ∨ validMeter m = false then s
  else
    match s.contactOf m with
    | none => s.claimAtEntry m c
    | some x =>
      match x.state with
      | .held _ => s.answerAsHolder m x.bestQuality c
      | .listening => s.claimAtListening x c
      | .claiming => s.claimAtClaiming x c
      | .ceded k => s.claimAtCeded x k c

/-- CLAIM (R110 to R117). -/
def execClaim (src : BitVec 4) (meter : MeterId) (quality : BitVec 6) (hold : Hold) (s : State) :
    Host.Outcome State Fault Refusal :=
  done (s.begin.hear src.toNat (some .collector) fun t =>
    t.placeClaim meter { station := src.toNat, quality := quality.toNat, hold := hold })

/-! ## YIELD and silence -/

/-- The contact is CEDED to a CLAIMING claim of station `n` (R118, R119). -/
def Contact.cededToClaiming (n : Nat) (x : Contact) : Bool :=
  match x.state with
  | .ceded k => k.station == n && k.hold == .claiming
  | _ => false

/-- The contact released from its cession (R118, R119). -/
def Contact.release (x : Contact) : Contact := { x with state := .listening }

/-- PEER-CLAIMING(n) becomes DUE (R118, R119). -/
def EntryState.revert (n : Nat) (x : EntryState) : EntryState :=
  match x with
  | .peerClaiming k _ => if k = n then .due else x
  | _ => x

/-- A YIELD from `n` reaches the meter's entry: there is no contact, or the contact is LISTENING, CLAIMING or
the one just released (R118). -/
def yieldReachesEntry (n : Nat) : Option Contact → Bool
  | none => true
  | some x =>
    match x.state with
    | .listening => true
    | .claiming => true
    | .held _ => false
    | .ceded _ => x.cededToClaiming n

/-- YIELD from station `n` for meter `m` (R118); while the route is CLOSING (R99), and for an invalid METER-ID
(R202), it has no effect. -/
def State.placeYield (s : State) (m : MeterId) (n : Nat) : State :=
  if s.ret.routeState = .closing ∨ validMeter m = false then s
  else
    let t := match s.contactOf m with
      | some x => if x.cededToClaiming n then s.setContact x.release else s
      | none => s
    if yieldReachesEntry n (s.contactOf m) then t.changeEntryState m (EntryState.revert n) else t

/-- YIELD (R118). -/
def execYield (src : BitVec 4) (meter : MeterId) (s : State) : Host.Outcome State Fault Refusal :=
  done (s.begin.hear src.toNat (some .collector) fun t => t.placeYield meter src.toNat)

/-- The peer entry of station `n` becomes SILENT and its timer stops; ROLE is kept (R97). -/
def State.silencePeer (s : State) (n : Nat) : State :=
  { s with main := { s.main with
      peers := s.main.peers.map fun p =>
        if p.station = n then { p with presence := .silent, silence := none } else p } }

/-- Reversion on the silence of station `n` (R119): contacts CEDED to its CLAIMING claims return to LISTENING,
and while the route is RUNNING its PEER-CLAIMING entries become DUE. -/
def State.revertPeer (s : State) (n : Nat) : State :=
  let t : State := { s with main := { s.main with
    contacts := s.main.contacts.map fun x => if x.cededToClaiming n then x.release else x } }
  if s.ret.routeState = .running then
    t.write fun r =>
      { r with entries := r.entries.map fun e => { e with state := EntryState.revert n e.state } }
  else t

/-- The silence timer of station `n`'s peer entry. -/
def State.silenceTimer (s : State) (n : Nat) : Timer :=
  match s.main.peers.find? fun p => p.station == n with
  | some p => p.silence
  | none => none

/-- The silence timer of station `n` expires after the time it has left (R97, R119). -/
def State.silenceExpired (s : State) (n : Nat) : State :=
  match s.silenceTimer n with
  | none => s
  | some left => ((s.passTime left).silencePeer n).revertPeer n

/-- SILENCE (R97, R119). -/
def execSilence (station : BitVec 4) (s : State) : Host.Outcome State Fault Refusal :=
  done (s.begin.silenceExpired station.toNat)

end Sys2Proof.Machine
end

