-- ==== Sys2Proof/Machine/Drain.lean ====
section
/-! DEFINITION. Depot upload: DRAIN_OPEN, COMMIT, DRAIN_CLOSE, COMMIT_WAIT_EXPIRY and DRAIN_POST_OFFER
(chapter 9). -/

namespace Sys2Proof.Machine

/-- DRAIN_OPEN (R167). -/
def execDrainOpen (src : BitVec 4) (s : State) : Host.Outcome State Fault Refusal :=
  done (s.begin.hearAddressed src.toNat .dock fun t => t.openDrain src.toNat)

/-- COMMIT (R173). -/
def execCommit (src : BitVec 4) (v : BitVec 32) (s : State) : Host.Outcome State Fault Refusal :=
  done (s.begin.hearAddressed src.toNat .dock fun t => t.commitDrain src.toNat v.toNat)

/-- DRAIN_CLOSE (R176). -/
def execDrainClose (src : BitVec 4) (s : State) : Host.Outcome State Fault Refusal :=
  done (s.begin.hearAddressed src.toNat .dock fun t => t.closeDrain src.toNat)

/-- The commit-wait timer expires after the time it has left (R172): the drain is abandoned. -/
def State.commitWaitExpired (s : State) : State :=
  match s.main.drain.commitWait with
  | none => s
  | some left => (s.passTime left).endDrain

/-- COMMIT_WAIT_EXPIRY (R172); the timer runs in AWAIT-COMMIT alone. -/
def execCommitWaitExpiry (s : State) : Host.Outcome State Fault Refusal :=
  done s.begin.commitWaitExpired

/-- DRAIN_POST_OFFER (R169): a post held WAITING is offered again. -/
def execDrainPostOffer (s : State) : Host.Outcome State Fault Refusal :=
  done (if s.main.drain.post = .waiting then s.begin.offerDrainPost else s.begin)

end Sys2Proof.Machine
end

