-- ==== Sys2Proof/Machine/Route.lean ====
section
/-! DEFINITION. The route table: ROUTE_BEGIN, ROUTE_ENTRY, ROUTE_GO, ROUTE_CLOSE and WALK_STEP
(chapter 7). -/

namespace Sys2Proof.Machine

/-! ## ROUTE-BEGIN -/

/-- A ROUTE-BEGIN that names a route is accepted (R128). -/
def Retained.acceptsBegin (r : Retained) : Bool :=
  match r.routeState with
  | .noRoute => decide (r.log.length < logLimit)
  | .closed => decide (r.log.length < logLimit)
  | .loading => true
  | .running => false
  | .closing => false

/-- An accepted ROUTE-BEGIN, one write (R128, R159). -/
def Retained.beginRoute (route count : Nat) (r : Retained) : Retained :=
  { r with
    entries := [], routeNumber := route, clampedCount := min count entryLimit,
    trunc := decide (entryLimit < count), routeClock := 0, routePhase := 0, reserved := true,
    routeState := .loading }

/-- ROUTE-BEGIN with a route number and an entry count (R128, R126, R136). -/
def State.routeBegun (s : State) (route count : Nat) : State :=
  if route = 0 ∨ count = 0 then s
  else if s.ret.acceptsBegin then
    let t := s.write (Retained.beginRoute route count)
    if s.ret.routeState = .loading then t else t.offerStatus
  else { s with main := { s.main with routeRefused := s.main.routeRefused + 1 } }

/-- ROUTE_BEGIN (R128). -/
def execRouteBegin (src : BitVec 4) (route count : BitVec 16) (s : State) :
    Host.Outcome State Fault Refusal :=
  done (s.begin.hearAddressed src.toNat .console fun t => t.routeBegun route.toNat count.toNat)

/-! ## ROUTE-ENTRY -/

/-- An entry as stored: the static fields of the post, and the progress fields at their stored values (R124). -/
def storedEntry (f : EntryFields) : RouteEntry :=
  { index := f.index.toNat, meter := f.meter, dr := f.dr.toNat, p := f.p.toNat, a := f.a.toNat,
    c := f.c.toNat, b := f.b.toNat, kr := f.kr.map BitVec.toNat, hint := f.hint.map BitVec.toNat,
    watch := f.watch, state := .due, z := none, findings := 0, double := false }

/-- What becomes of an entry a ROUTE-ENTRY carries: stored, refused by tests 1 to 5, or refused by test 6 with
ROUTE-DUP (R129). -/
inductive EntryVerdict where
  | stored
  | refused
  | duplicate
  deriving DecidableEq, Repr

/-- The six tests of R129 in order. -/
def Retained.judgeEntry (r : Retained) (f : EntryFields) : EntryVerdict :=
  if r.routeState ≠ .loading ∧ r.routeState ≠ .running then .refused
  else if r.clampedCount ≤ f.index.toNat then .refused
  else if validMeter f.meter = false then .refused
  else if f.dr.toNat < 4 ∨ 8 < f.dr.toNat ∨ 10 ^ f.dr.toNat ≤ f.p.toNat then .refused
  else if r.routeState = .running ∧ (r.entryAt f.index.toNat).isSome = true then .refused
  else if r.entries.any (fun e => e.meter == f.meter && e.index != f.index.toNat) then .duplicate
  else .stored

/-- The entry put at its index, in place of any entry there (R130, R131). -/
def Retained.storeEntry (r : Retained) (e : RouteEntry) : Retained :=
  { r with entries :=
      insertBy RouteEntry.index e (r.entries.filter fun x => x.index != e.index) }

/-- The progress fields of an entry that comes to stand for a meter with the contact `c` (R132), from the log of
`r`. -/
def RouteEntry.meet (r : Retained) (c : Contact) (e : RouteEntry) : RouteEntry :=
  match c.state with
  | .held q =>
    match (r.recordOf q).bind Record.readFields with
    | some f => { e with state := .readHere, z := some f.reading, findings := f.findings }
    | none => { e with state := .readHere }
  | .ceded k =>
    match k.hold with
    | .held => { e with state := .readPeer k.station k.quality }
    | .claiming => { e with state := .peerClaiming k.station k.quality }
  | .listening => e
  | .claiming => e

/-- The entry met with its meter's contact, when one exists (R132). -/
def meetAmong (r : Retained) (cs : List Contact) (e : RouteEntry) : RouteEntry :=
  match cs.find? fun c => c.meter == e.meter with
  | some c => e.meet r c
  | none => e

/-- The entry as it is stored now: in RUNNING it meets its meter's contact (R131, R132). -/
def State.entryToStore (s : State) (f : EntryFields) : RouteEntry :=
  if s.ret.routeState = .running then meetAmong s.ret s.main.contacts (storedEntry f)
  else storedEntry f

/-- One entry of a ROUTE-ENTRY post (R129 to R132, R136); a stored entry is one write. -/
def State.takeEntry (s : State) (f : EntryFields) : State :=
  match s.ret.judgeEntry f with
  | .stored => s.write fun r => r.storeEntry (s.entryToStore f)
  | .refused => s
  | .duplicate => { s with main := { s.main with routeDup := s.main.routeDup + 1 } }

/-- The entries of a ROUTE-ENTRY post, one at a time in the order the post carries them (R129). -/
def State.takeEntries (s : State) (fs : List EntryFields) : State := fs.foldl State.takeEntry s

/-- ROUTE_ENTRY (R129). -/
def execRouteEntry (src : BitVec 4) (entries : List EntryFields) (s : State) :
    Host.Outcome State Fault Refusal :=
  done (s.begin.hearAddressed src.toNat .console fun t => t.takeEntries entries)

/-! ## ROUTE-GO -/

/-- The missing indices in ascending order: below the clamped entry count and empty (R133). -/
def Retained.missing (r : Retained) : List Nat :=
  (List.range r.clampedCount).filter fun i => (r.entryAt i).isNone

/-- Steps 1 to 3 of ROUTE-GO, one write (R133): RUNNING, the route clock 0 and started, and the entries met with
the contacts `cs`. -/
def Retained.startRoute (cs : List Contact) (r : Retained) : Retained :=
  { r with routeState := .running, routeClock := 0, routePhase := 0,
           entries := r.entries.map (meetAmong r cs) }

/-- The ROUTE-GAP to station `src`, when an index is missing (R133, R134). -/
def State.offerGap (s : State) (src : Nat) : State :=
  if s.ret.missing.isEmpty then s
  else
    s.offer { mask := maskOf src,
              body := .routeGap s.ret.routeNumber s.ret.missing.length
                (s.ret.missing.take gapLimit) }

/-- ROUTE-GO from station `src` (R133, R126): the four steps as one action, then the STATUS of the change. -/
def State.routeGone (s : State) (src : Nat) : State :=
  if s.ret.routeState = .loading then
    ((s.write (Retained.startRoute s.main.contacts)).offerGap src).offerStatus
  else s

/-- ROUTE_GO (R133). -/
def execRouteGo (src : BitVec 4) (s : State) : Host.Outcome State Fault Refusal :=
  done (s.begin.hearAddressed src.toNat .console fun t => t.routeGone src.toNat)

/-! ## ROUTE-CLOSE and the close walk -/

/-- The route state CLOSING with the walk tallies 0, one write (R137, R158). -/
def Retained.startClosing (r : Retained) : Retained :=
  { r with routeState := .closing, listed := 0, unlisted := 0 }

/-- The close walk stands at index 0 (R137, R143). -/
def State.restartWalk (s : State) : State := { s with main := { s.main with walk := 0 } }

/-- ROUTE-CLOSE (R137, R126): the four steps as one action, then the STATUS of the change. -/
def State.routeClosed (s : State) : State :=
  if s.ret.routeState = .running then
    ((s.write Retained.startClosing).clearContacts.restartWalk).offerStatus
  else s

/-- ROUTE_CLOSE (R137). -/
def execRouteClose (src : BitVec 4) (s : State) : Host.Outcome State Fault Refusal :=
  done (s.begin.hearAddressed src.toNat .console fun t => t.routeClosed)

/-- This station is responsible for an entry (R139). -/
def State.responsible (s : State) (e : RouteEntry) : Bool :=
  match e.hint with
  | some h => h == s.main.cfg.sector
  | none =>
    s.main.peers.all fun p =>
      !(p.presence == .present && p.role == some .collector) || decide (s.ownNumber < p.station)

/-- The entry as MISSED, with its claimant as it stood (R99, R140, R141). -/
def RouteEntry.miss (e : RouteEntry) : RouteEntry := { e with state := .missed e.state.claimant }

/-- The entry at index `i` becomes MISSED. -/
def Retained.missAt (i : Nat) (r : Retained) : Retained :=
  { r with entries := r.entries.map fun e => if e.index = i then e.miss else e }

/-- A responsible miss, one write (R140): a MISSED record and LISTED with room, UNLISTED without. -/
def Retained.missHere (e : RouteEntry) (r : Retained) : Retained :=
  if r.room then
    let t := r.append r.routeNumber .closed
      (.missed { meter := e.meter, dials := e.dr, prior := e.p, resets := e.kr })
    { t with listed := t.listed + 1 }.missAt e.index
  else { r with unlisted := r.unlisted + 1 }.missAt e.index

/-- The step of the walk at index `i` (R138 to R141). -/
def State.visitIndex (s : State) (i : Nat) : State :=
  match s.ret.entryAt i with
  | none => s
  | some e =>
    if e.countsDue then
      if s.responsible e then s.write (Retained.missHere e) else s.write (Retained.missAt i)
    else s

/-- The end of the walk, one write (R142, R155): the ROUTE-END record, when a sequence number is left, in the
reserved slot; the reservation ends, and the route state becomes CLOSED. -/
def Retained.endRoute (r : Retained) : Retained :=
  let t :=
    if r.nextSeq ≤ seqMax then
      r.append r.routeNumber .closed
        (.routeEnd { readHere := r.entries.countP RouteEntry.isReadHere
                     readPeer := r.entries.countP RouteEntry.isReadPeer
                     missedListed := r.listed
                     missedUnlisted := r.unlisted
                     withFindings := r.entries.countP fun e => e.findings != 0#12 })
    else r
  { t with reserved := false, routeState := .closed }

/-- One step of the close walk (R138); the step for the last index ends the walk (R142). -/
def State.stepWalk (s : State) : State :=
  if s.powered = false ∨ s.ret.routeState ≠ .closing then s
  else
    let t := s.visitIndex s.main.walk
    if t.ret.clampedCount ≤ s.main.walk + 1 then (t.write Retained.endRoute).offerStatus
    else { t with main := { t.main with walk := s.main.walk + 1 } }

/-- WALK_STEP (R138 to R142, R155). -/
def execWalkStep (s : State) : Host.Outcome State Fault Refusal := done s.begin.stepWalk

end Sys2Proof.Machine
end

