-- ==== Sys2Proof/Machine/Supply.lean ====
section
/-! DEFINITION. The supply monitor, the park states and the losses of supply (sections 10.1 and 10.2): PARK,
RUN, IGN_FALLING_EDGE, IGN_RISING_EDGE, WAKE, WAKE_SETTLE_EXPIRY, PARK_RETURN_EXPIRY, ENTER_SAG,
RETURN_TO_NORMAL, MAIN_SUPPLY_LOSS and BACKUP_SUPPLY_LOSS. -/

namespace Sys2Proof.Machine

/-! ## Park states -/

/-- Both slots of a port are emptied and its frame in progress is discarded; the counters are kept (R6). -/
def PortState.flush (x : PortState) : PortState := { x with slots := [], receiving := none }

/-- Both ports are flushed (R6). -/
def State.flushPorts (s : State) : State :=
  { s with main := { s.main with portA := s.main.portA.flush, portB := s.main.portB.flush } }

/-- The park state replaced, with the wake-settle and park-return timers stopped (R186, R189). -/
def State.setPark (s : State) (p : Park) : State :=
  { s with main := { s.main with park := p, wakeSettle := none, parkReturn := none } }

/-- The receiver stops being receptive: a post being received is lost without a count (R186, step 5). -/
def State.stopHearing (s : State) : State := s.setLine s.pins.line.cut

/-- Entry to PARKED (R186). -/
def State.enterParked (s : State) : State :=
  ((s.clearContacts.flushPorts.endDrain).setPark .parked).stopHearing

/-- Entry to RUN (R189). -/
def State.enterRun (s : State) : State := (s.setPark .run).offerStatus

/-- A PARK post in RUN or LINK-AWAKE (R185, R186). -/
def State.parkPost (s : State) : State :=
  if s.main.park = .parked then s else s.enterParked

/-- PARK (R185, R186). -/
def execPark (src : BitVec 4) (s : State) : Host.Outcome State Fault Refusal :=
  done (s.begin.hearAddressed src.toNat .console State.parkPost)

/-- A RUN post: in LINK-AWAKE the station enters RUN, in RUN it is ignored (R185, R189). -/
def State.runPost (s : State) : State :=
  if s.main.park = .linkAwake then s.enterRun else s

/-- RUN (R185, R189). -/
def execRun (src : BitVec 4) (s : State) : Host.Outcome State Fault Refusal :=
  done (s.begin.hearAddressed src.toNat .console State.runPost)

/-- The level of IGN as last seen. -/
def State.setIgn (s : State) (level : Bool) : State := { s with pins := { s.pins with ign := level } }

/-- A falling edge of IGN is acted on in RUN alone (R185, R186). -/
def State.ignFell (s : State) : State :=
  if s.powered && s.main.park == .run then s.enterParked else s

/-- IGN_FALLING_EDGE (R186). -/
def execIgnFallingEdge (s : State) : Host.Outcome State Fault Refusal :=
  done ((s.begin.setIgn false).ignFell)

/-- A rising edge of IGN is acted on in PARKED and LINK-AWAKE (R185, R189). -/
def State.ignRose (s : State) : State :=
  if s.powered && s.main.park != .run then s.enterRun else s

/-- IGN_RISING_EDGE (R189). -/
def execIgnRisingEdge (s : State) : Host.Outcome State Fault Refusal :=
  done ((s.begin.setIgn true).ignRose)

/-- WAKE (R85, R187): line activity starts. -/
def execWake (quiet : Nat) (s : State) : Host.Outcome State Fault Refusal :=
  done (s.begin.lineActive quiet)

/-- The wake settle has run (R187): a STATUS is offered and the park-return timer starts. -/
def State.wakeSettled (s : State) : State :=
  match s.main.wakeSettle with
  | none => s
  | some left =>
    let t := s.passTime left
    ({ t with main := { t.main with
        wakeSettle := none
        parkReturn := startTimer (t.main.cfg.parkReturn * 1000) } } : State).offerStatus

/-- WAKE_SETTLE_EXPIRY (R187). -/
def execWakeSettleExpiry (s : State) : Host.Outcome State Fault Refusal := done s.begin.wakeSettled

/-- The park-return timer expires after the time it has left (R188). -/
def State.parkReturnExpired (s : State) : State :=
  match s.main.parkReturn with
  | none => s
  | some left => (s.passTime left).enterParked

/-- PARK_RETURN_EXPIRY (R188). -/
def execParkReturnExpiry (s : State) : Host.Outcome State Fault Refusal :=
  done s.begin.parkReturnExpired

/-! ## The supply monitor -/

/-- The operating threshold in millivolts: 8.0 V + 0.5 V × L (R182). -/
def thresholdMv (c : Settings) : Nat := 8000 + 500 * c.supplyLevel

/-- SENSE as last seen, in millivolts. -/
def State.setSense (s : State) (mv : Nat) : State := { s with pins := { s.pins with senseMv := mv } }

/-- SENSE below the threshold in NORMAL enters SAG and sets SAG-SEEN (R182, R183). -/
def State.judgeSag (s : State) : State :=
  if s.powered = true ∧ s.main.supply = .normal ∧ s.pins.senseMv < thresholdMv s.main.cfg then
    { s with main := { s.main with supply := .sag, sagSeen := true, sagInAttempt := true } }
  else s

/-- SENSE at the threshold plus the hysteresis or above in SAG enters NORMAL (R182). -/
def State.judgeNormal (s : State) : State :=
  if s.powered = true ∧ s.main.supply = .sag ∧
      thresholdMv s.main.cfg + hysteresisMv ≤ s.pins.senseMv then
    { s with main := { s.main with supply := .normal } }
  else s

/-- ENTER_SAG (R182, R183): SENSE falls to `mv`. -/
def execEnterSag (mv : Nat) (s : State) : Host.Outcome State Fault Refusal :=
  done ((s.begin.setSense mv).judgeSag)

/-- RETURN_TO_NORMAL (R182): SENSE rises to `mv`. -/
def execReturnToNormal (mv : Nat) (s : State) : Host.Outcome State Fault Refusal :=
  done ((s.begin.setSense mv).judgeNormal)

/-! ## Losses of supply -/

/-- The main domain without its supply: its contents are lost (R184). Nothing reads it before a start-up, which
sets all of it (log entry 4). -/
def lostMain : Main :=
  { strap := 0, cfg := defaultSettings, cfgDefault := false, cfgClamped := false, portA := freshPort,
    portB := freshPort, contacts := [], slots := emptySlots, alertsReleased := 0, queue := [],
    current := none, linkCheck := 0, linkDrop := 0, statusTimer := none, mute := false, peers := [],
    routeDup := 0, routeRefused := 0, walk := 0, drain := idleDrain, supply := .normal,
    sagSeen := false, sagInAttempt := false, park := .parked, wakeSettle := none, parkReturn := none, cause := .cold }

/-- The retained domain as the last completed write left it (R159), when the last `cut` writes of the step were
not completed. -/
def State.retainedBefore (s : State) (cut : Nat) : Retained := (s.journal.take cut).getLast?.getD s.ret

/-- VMAIN fails (R184): the main domain is lost, the receiver stops, and the retained domain keeps what its last completed write left
while VBAK holds it; with VBAK gone as well, its contents and the retention-valid flag are lost. -/
def State.loseMain (s : State) (cut : Nat) : State :=
  if s.powered then
    { s with
      powered := false
      pins := { s.pins with line := s.pins.line.cut }
      ret := if s.backup then s.retainedBefore cut else clearedRetained false
      main := lostMain
      journal := [] }
  else s.begin

/-- MAIN_SUPPLY_LOSS (R184, R159, R160). -/
def execMainSupplyLoss (cut : Nat) (s : State) : Host.Outcome State Fault Refusal :=
  done (s.loseMain cut)

/-- VBAK fails (R184): while VMAIN is absent the retained contents and the retention-valid flag are lost; beside
VMAIN they stay until VMAIN fails as well. Lost contents read as cleared; nothing reads them before the COLD start that
clears them (log entry 4). -/
def State.loseBackup (s : State) : State :=
  { s with backup := false, ret := if s.powered then s.ret else clearedRetained false }

/-- BACKUP_SUPPLY_LOSS (R184): VBAK fails. Where it has failed already it cannot fail again, and the command is the
end of that failure: VBAK is there again, and what was lost stays lost (DESIGN CHOICE, log entry 4). -/
def execBackupSupplyLoss (s : State) : Host.Outcome State Fault Refusal :=
  done (if s.backup then s.begin.loseBackup else { s.begin with backup := true })

end Sys2Proof.Machine
end

