-- ==== Sys2Proof/Machine/StartUp.lean ====
section
/-! DEFINITION. Start-up, station reset and the queries (sections 10.3 and 10.4): START_UP, RESET,
CONFIG_QUERY and COUNT_QUERY. -/

namespace Sys2Proof.Machine

/-! ## Start-up -/

/-- What the visit of a RESTORED start makes of a record (R162): OPEN becomes CLOSED with INTERRUPTED,
SENT-IN-BATCH becomes UNSENT, and SLOTTED becomes PENDING. -/
def Record.restore (x : Record) : Record :=
  { x with
    openState := .closed
    mark := .unsent
    alert := if x.alert = .slotted then .pending else x.alert
    body :=
      match x.openState, x.body with
      | .opened, .read f => .read { f with marks := { f.marks with interrupted := true } }
      | _, b => b }

/-- The visit of a RESTORED start: every record in ascending SEQUENCE, one write for each that changes (R162). -/
def State.visitLog (s : State) : State :=
  (s.ret.log.filter fun x => x.restore != x).foldl
    (fun u x => u.write fun r => r.updRecord x.seq Record.restore) s

/-- Step 3 of start-up (R195): RESTORED with the retention-valid flag true, COLD with it false. -/
def State.decideCause (s : State) : State :=
  if s.ret.retentionValid then s.visitLog else s.write fun _ => clearedRetained true

/-- The cause of a start (R195). -/
def Retained.startCause (r : Retained) : Cause := if r.retentionValid then .restored else .cold

/-- SENSE is at or above the threshold plus the hysteresis (R182, R196). -/
def supplyAtStart (c : Settings) (mv : Nat) : Supply :=
  if thresholdMv c + hysteresisMv ≤ mv then .normal else .sag

/-- The main domain at the end of start-up (R196), before the first STATUS is offered. -/
def startMain (strap : Nat) (rc : ReadConfig) (pins : Pins) (cause : Cause) : Main :=
  { strap := strap, cfg := rc.settings, cfgDefault := rc.isDefault, cfgClamped := rc.clamped,
    portA := freshPort, portB := freshPort, contacts := [], slots := emptySlots, alertsReleased := 0,
    queue := [], current := none, linkCheck := 0, linkDrop := 0, statusTimer := none,
    mute := decide (strap = 0), peers := freshPeers strap (rc.settings.peerSilence * 1000),
    routeDup := 0, routeRefused := 0, walk := 0, drain := idleDrain,
    supply := supplyAtStart rc.settings pins.senseMv,
    sagSeen := supplyAtStart rc.settings pins.senseMv == .sag, sagInAttempt := false,
    park := if pins.ign then .run else .parked, wakeSettle := none, parkReturn := none,
    cause := cause }

/-- Start-up (R191 to R196): straps, configuration block, cause, and the end of start-up with its STATUS. -/
def State.started (s : State) (strap : Nat) (block : List Byte) (pins : Pins) : State :=
  let cause := s.ret.startCause
  let t := s.decideCause
  ({ t with powered := true, pins := pins,
            main := startMain strap (readConfig block) pins cause } : State).offerStatus

/-- START_UP (R191 to R196): a rise of the main supply. A stretch under way on the line began before the receiver was
receptive (R85). -/
def execStartUp (straps : BitVec 4) (block : List Byte) (ign : Bool) (mv : Nat) (s : State) :
    Host.Outcome State Fault Refusal :=
  done (s.begin.started straps.toNat block
    { s.pins with ign := ign, senseMv := mv, line := s.pins.line.cut })

/-! ## Station reset -/

/-- Every SLOTTED record becomes PENDING, one write for each (R69). -/
def State.returnSlotted (s : State) : State :=
  (s.ret.log.filter fun x => x.alert == .slotted).foldl
    (fun u x => u.write fun r => r.updRecord x.seq (Record.withAlert .pending)) s

/-- The main-domain values of a station reset (R197): what is cleared, and by omission what is kept. -/
def resetMain (m : Main) : Main :=
  { m with
    portA := freshPort, portB := freshPort, contacts := [], slots := emptySlots, alertsReleased := 0,
    queue := [], current := none, linkCheck := 0, linkDrop := 0,
    mute := decide (m.strap = 0), peers := freshPeers m.strap (m.cfg.peerSilence * 1000),
    routeDup := 0, routeRefused := 0, drain := idleDrain, cause := .stationReset,
    walk := 0 }

/-- Station reset (R197, R39, R69, R143, R178): records closed, SLOTTED records returned to PENDING, batch marks
cleared, the main domain's blocks cleared with the frames in progress, and a STATUS offered. A CLOSING walk restarts
at index 0. The manual gives the writes of the three blocks no order among them (R159); this order is the model's
(DESIGN CHOICE, log entry 15). -/
def State.stationReset (s : State) : State :=
  let t := s.clearContacts.returnSlotted.markAll .unsent s.main.drain.batch
  ({ t with main := resetMain t.main } : State).offerStatus

/-- RESET (R197), acted on from a console or a dock. -/
def execReset (src : BitVec 4) (role : Role) (s : State) : Host.Outcome State Fault Refusal :=
  done (s.begin.hearQuery src.toNat role State.stationReset)

/-! ## Queries -/

/-- The CONFIG-REPORT to station `src` (R198). -/
def State.configReport (s : State) (src : Nat) : Post :=
  { mask := maskOf src
    body := .configReport s.main.strap s.main.cfgDefault s.main.cfgClamped s.main.cfg }

/-- CONFIG-QUERY from station `src` (R198). -/
def State.answerConfig (s : State) (src : Nat) : State := s.offer (s.configReport src)

/-- CONFIG_QUERY (R198), acted on from a console or a dock. -/
def execConfigQuery (src : BitVec 4) (role : Role) (s : State) : Host.Outcome State Fault Refusal :=
  done (s.begin.hearQuery src.toNat role fun t => t.answerConfig src.toNat)

/-- The eleven counters of a port in the order of a COUNT-REPORT (R199, section 11.4). -/
def PortCounters.list (c : PortCounters) : List Counter :=
  [c.malformedLength, c.checkFailed, c.malformed, c.filtered, c.sagDropped, c.closingDropped,
    c.strayDropped, c.refusedFull, c.duplicate, c.accepted, c.overrun]

/-- The counters of a PART (R199). -/
def Main.counters (m : Main) : Part → List Counter
  | .portA => m.portA.counters.list
  | .portB => m.portB.counters.list
  | .station => [m.linkCheck, m.linkDrop, m.routeDup, m.routeRefused, m.alertsReleased]

/-- The PART a byte names; absent for a value above 2 (R199, R202). -/
def partOf (b : Byte) : Option Part :=
  if b = 0#8 then some .portA
  else if b = 1#8 then some .portB
  else if b = 2#8 then some .station
  else none

/-- COUNT-QUERY from station `src` (R199). -/
def State.answerCount (s : State) (src : Nat) (part : Byte) : State :=
  match partOf part with
  | none => s
  | some x => s.offer { mask := maskOf src, body := .countReport x (s.main.counters x) }

/-- COUNT_QUERY (R199), acted on from a console or a dock. -/
def execCountQuery (src : BitVec 4) (role : Role) (part : Byte) (s : State) :
    Host.Outcome State Fault Refusal :=
  done (s.begin.hearQuery src.toNat role fun t => t.answerCount src.toNat part)

end Sys2Proof.Machine
end

