-- ==== Sys2Proof/Machine/Reception.lean ====
section
/-! DEFINITION. POST_RECEIVED: a stretch of line activity as the receiver takes it, from its bytes
(R85 to R88, R201, R202). -/

namespace Sys2Proof.Machine

/-- The roles a kind is acted on from (R88). -/
def kindTakesRole : Kind → Role → Bool
  | .claim, r => r == .collector
  | .yield, r => r == .collector
  | .status, _ => true
  | .alert, _ => true
  | .alertAck, r => r == .console
  | .routeBegin, r => r == .console
  | .routeEntry, r => r == .console
  | .routeGo, r => r == .console
  | .routeClose, r => r == .console
  | .park, r => r == .console
  | .run, r => r == .console
  | .reset, r => r != .collector
  | .configQuery, r => r != .collector
  | .countQuery, r => r != .collector
  | .drainOpen, r => r == .dock
  | .commit, r => r == .dock
  | .drainClose, r => r == .dock
  | .routeGap, _ => false
  | .configReport, _ => false
  | .countReport, _ => false
  | .record, _ => false
  | .batchEnd, _ => false

/-- The kind is acted on whatever the MASK (R88). -/
def kindTakesAnyMask : Kind → Bool
  | .claim => true
  | .yield => true
  | .status => true
  | .alert => true
  | _ => false

/-- What a post of kind `k` from station `src` with the body `body` does (R88, section 11.4). -/
def State.actOnKind (s : State) (k : Kind) (src : Nat) (body : List Byte) : State :=
  match k with
  | .claim =>
    s.placeClaim (BitVec.ofNat 32 (beAt body 0 4))
      { station := src, quality := (byteAt body 4).toNat % 64, hold := decodeHold (byteAt body 5) }
  | .yield => s.placeYield (BitVec.ofNat 32 (beAt body 0 4)) src
  | .status => s
  | .alert => s
  | .alertAck => s.ackAlert (byteAt body 0) (beAt body 1 4)
  | .routeBegin => s.routeBegun (beAt body 0 2) (beAt body 2 2)
  | .routeEntry => s.takeEntries (decodeEntries body)
  | .routeGo => s.routeGone src
  | .routeClose => s.routeClosed
  | .park => s.parkPost
  | .run => s.runPost
  | .reset => s.stationReset
  | .configQuery => s.answerConfig src
  | .countQuery => s.answerCount src (byteAt body 0)
  | .drainOpen => s.openDrain src
  | .commit => s.commitDrain src (beAt body 0 4)
  | .drainClose => s.closeDrain src
  | .routeGap => s
  | .configReport => s
  | .countReport => s
  | .record => s
  | .batchEnd => s

/-- Acting on a valid post from another station whose peer entry has been updated (R88, R202, R188). -/
def State.actOnPost (s : State) (h : Heard) : State :=
  match h.role, h.kind with
  | some r, some k =>
    if kindTakesRole k r && (kindTakesAnyMask k || s.addressedBy h.mask) &&
        lengthAllowed k h.body.length then
      if kindTakesAnyMask k then s.actOnKind k h.src h.body
      else s.restartParkReturn.actOnKind k h.src h.body
    else s
  | _, _ => s

/-- A stretch of line activity ends (R85 to R88): not received unless the receiver takes posts and did when the
stretch began; discarded with LINK-CHECK when it forms no whole valid post; otherwise judged by its sender and acted
on. -/
def State.hearBytes (s : State) (bytes : List Byte) : State :=
  match parsePost bytes with
  | none => if s.receives then s.postPasses.discardStretch else s.postPasses
  | some h => s.hear h.src h.role fun t => t.actOnPost h

/-- POST_RECEIVED (R85 to R88). -/
def execPostReceived (bytes : List Byte) (s : State) : Host.Outcome State Fault Refusal :=
  done (s.begin.hearBytes bytes)

end Sys2Proof.Machine
end

