-- ==== Sys2Proof/Machine/Dispatch.lean ====
section
/-! DEFINITION. The dispatch: one arm per command, in the table's order. -/

namespace Sys2Proof.Machine

-- The effect of a command on everything but the queue.
def exec (i : Instr) (s : State) : Host.Outcome State Fault Refusal :=
  match i with
  | .frameComplete port wait bits falls => Sys2Proof.Machine.execFrameComplete port wait bits falls s
  | .take port => Sys2Proof.Machine.execTake port s
  | .idleExpiry meter => Sys2Proof.Machine.execIdleExpiry meter s
  | .holdOffExpiry meter => Sys2Proof.Machine.execHoldOffExpiry meter s
  | .settleExpiry meter => Sys2Proof.Machine.execSettleExpiry meter s
  | .attempt quiet => Sys2Proof.Machine.execAttempt quiet s
  | .postSent => Sys2Proof.Machine.execPostSent s
  | .attemptLost => Sys2Proof.Machine.execAttemptLost s
  | .postReceived bytes => Sys2Proof.Machine.execPostReceived bytes s
  | .claim src meter quality hold => Sys2Proof.Machine.execClaim src meter quality hold s
  | .yield src meter => Sys2Proof.Machine.execYield src meter s
  | .status src role => Sys2Proof.Machine.execStatus src role s
  | .alert src role => Sys2Proof.Machine.execAlert src role s
  | .alertAck src slot seq => Sys2Proof.Machine.execAlertAck src slot seq s
  | .routeBegin src route count => Sys2Proof.Machine.execRouteBegin src route count s
  | .routeEntry src entries => Sys2Proof.Machine.execRouteEntry src entries s
  | .routeGo src => Sys2Proof.Machine.execRouteGo src s
  | .routeClose src => Sys2Proof.Machine.execRouteClose src s
  | .walkStep => Sys2Proof.Machine.execWalkStep s
  | .park src => Sys2Proof.Machine.execPark src s
  | .run src => Sys2Proof.Machine.execRun src s
  | .reset src role => Sys2Proof.Machine.execReset src role s
  | .configQuery src role => Sys2Proof.Machine.execConfigQuery src role s
  | .countQuery src role part => Sys2Proof.Machine.execCountQuery src role part s
  | .drainOpen src => Sys2Proof.Machine.execDrainOpen src s
  | .commit src v => Sys2Proof.Machine.execCommit src v s
  | .drainClose src => Sys2Proof.Machine.execDrainClose src s
  | .commitWaitExpiry => Sys2Proof.Machine.execCommitWaitExpiry s
  | .drainPostOffer => Sys2Proof.Machine.execDrainPostOffer s
  | .promotion => Sys2Proof.Machine.execPromotion s
  | .statusTimerExpiry => Sys2Proof.Machine.execStatusTimerExpiry s
  | .silence station => Sys2Proof.Machine.execSilence station s
  | .ignFallingEdge => Sys2Proof.Machine.execIgnFallingEdge s
  | .ignRisingEdge => Sys2Proof.Machine.execIgnRisingEdge s
  | .wake quiet => Sys2Proof.Machine.execWake quiet s
  | .wakeSettleExpiry => Sys2Proof.Machine.execWakeSettleExpiry s
  | .parkReturnExpiry => Sys2Proof.Machine.execParkReturnExpiry s
  | .enterSag mv => Sys2Proof.Machine.execEnterSag mv s
  | .returnToNormal mv => Sys2Proof.Machine.execReturnToNormal mv s
  | .mainSupplyLoss cut => Sys2Proof.Machine.execMainSupplyLoss cut s
  | .startUp straps block ign mv => Sys2Proof.Machine.execStartUp straps block ign mv s
  | .backupSupplyLoss => Sys2Proof.Machine.execBackupSupplyLoss s

end Sys2Proof.Machine
end

