-- ==== Sys2Proof/Machine/Step.lean ====
section
/-! DEFINITION. One step of the part: the command at the front of the queue, or a millisecond of idling. -/

namespace Sys2Proof.Machine

/-- The part idles for one millisecond (DESIGN CHOICE, log entry 2): both clocks and every running timer
move on, and nothing else does. -/
def State.idle (s : State) : State := s.begin.passTime 1

/-- One step: the command at the front of the queue is taken and has its effect on the state with the queue's
rest; on an empty queue the part idles. -/
def step (s : State) : Host.Outcome State Fault Refusal :=
  match s.pending with
  | [] => done s.idle
  | c :: rest => exec c { s with pending := rest }

/-- `s` with the command that the word spells at the front of its queue; `s` where it spells none. -/
def State.withFetchWord (s : State) (nbits w : Nat) : State :=
  match Sys2Proof.decodeTableWord nbits w with
  | some c => { s with pending := c :: s.pending }
  | none => s

end Sys2Proof.Machine
end

