-- ==== Sys2Proof/Safety.lean ====
section
/-! DEFINITION. What counts as a safe run: the bounds and the bindings that the manual promises of every
state, as predicates on the state, and the conditions the statements name. -/

namespace Sys2Proof.Machine

/-! ## The retained domain -/

/-- `P` holds of the retained domain as it stands, and as it stood before each write of the latest step: a loss
of the main supply can bring any of these back (R159). -/
def State.EveryRetained (P : Retained → Prop) (s : State) : Prop :=
  P s.ret ∧ ∀ r ∈ s.journal, P r

/-- Sequence numbers rise strictly from the oldest record to the newest, and all are below the next-sequence
value (R150); the counter lies in 1 to 4,294,967,296 (R151). -/
def Retained.LogInOrder (r : Retained) : Prop :=
  (r.log.map Record.seq).Pairwise (· < ·) ∧ (∀ x ∈ r.log, 1 ≤ x.seq ∧ x.seq < r.nextSeq) ∧
    1 ≤ r.nextSeq ∧ r.nextSeq ≤ seqMax + 1

/-- A route is in progress: from ROUTE-BEGIN to its ROUTE-END record (R153). -/
def RouteState.inProgress : RouteState → Bool
  | .noRoute => false
  | .loading => true
  | .running => true
  | .closing => true
  | .closed => false

/-- The reservation is 1 exactly while a route is in progress, and occupancy with the reservation does not
exceed 4096 (R153). -/
def Retained.LogHasRoom (r : Retained) : Prop :=
  r.reserved = r.routeState.inProgress ∧ r.log.length + r.reserved.toNat ≤ logLimit

/-- The capture log is as R150, R151 and R153 promise. -/
def Retained.LogSound (r : Retained) : Prop := r.LogInOrder ∧ r.LogHasRoom

/-- The static fields of a stored entry are in range (R124, R129). -/
def RouteEntry.InRange (count : Nat) (e : RouteEntry) : Prop :=
  e.index < count ∧ validMeter e.meter = true ∧ 4 ≤ e.dr ∧ e.dr ≤ 8 ∧ e.p < 10 ^ e.dr

/-- The entry's progress fields are at their stored values (R124). -/
def RouteEntry.Untouched (e : RouteEntry) : Prop :=
  e.state = .due ∧ e.z = none ∧ e.findings = 0 ∧ e.double = false

/-- The route table holds at most 2048 entries, no two at one index and no two for one meter (R123), with static
fields in range; it is empty in NO-ROUTE (R126), untouched in LOADING (R99, R130, R131), and holds no MISSED
entry in RUNNING. -/
def Retained.RouteSound (r : Retained) : Prop :=
  r.clampedCount ≤ entryLimit ∧ (r.entries.map RouteEntry.index).Pairwise (· < ·) ∧
    (r.entries.map RouteEntry.meter).Nodup ∧ (∀ e ∈ r.entries, e.InRange r.clampedCount) ∧
    (r.routeState = .noRoute → r.entries = [] ∧ r.routeNumber = 0) ∧
    (r.routeState = .loading → r.routeClock = 0 ∧ ∀ e ∈ r.entries, e.Untouched) ∧
    (r.routeState = .running → ∀ e ∈ r.entries, e.isMissed = false)

/-- The two clocks stay within their 48 and 32 bits (R127, R184). -/
def Retained.ClocksInWidth (r : Retained) : Prop :=
  r.stationClock ≤ stationClockMax ∧ r.routeClock ≤ routeClockMax ∧ r.routePhase < 1000

/-! ## Readings, advances and rates (R55) -/

/-- A reading, its dial count and the measures formed with it lie in the ranges of R55. -/
def MeasuredInRange (dials reading : Nat) (measures : Option Measures) : Prop :=
  4 ≤ dials ∧ dials ≤ 8 ∧ reading < 10 ^ dials ∧
    ∀ m ∈ measures, -(10 ^ (dials - 1) : Int) ≤ m.advance ∧ m.advance < 9 * 10 ^ (dials - 1) ∧
      m.rate ≤ max16

/-- The READ records of the log are in range (R55). -/
def Retained.ReadingsInRange (r : Retained) : Prop :=
  ∀ x ∈ r.log, ∀ f ∈ x.readFields, MeasuredInRange f.dials f.reading f.measures

/-- A contact is in range (R55). -/
def Contact.InRange (c : Contact) : Prop := MeasuredInRange c.dials c.reading c.measures

/-! ## The contact table -/

/-- A contact's ring, counts and timers are as R21, R27, R33 and R34 give them. -/
def Contact.Sound (c : Contact) : Prop :=
  c.ring.length ≤ ringLimit ∧ c.arrivals ≤ max16 ∧ c.bestQuality ≤ 63 ∧
    (c.settle.isSome = true ↔ c.state = .claiming) ∧ c.holdOff.isSome = !c.eligible ∧
    (c.idlePending = true → c.state = .claiming)

/-- At most 192 contacts, never two for one meter (R20), each sound; kept in rising order of METER-ID. -/
def Main.ContactsSound (m : Main) : Prop :=
  (m.contacts.map fun c => c.meter.toNat).Pairwise (· < ·) ∧ m.contacts.length ≤ contactLimit ∧
    ∀ c ∈ m.contacts, c.Sound

/-- The sequence a contact's RECORD field holds (R21). -/
def Contact.record (c : Contact) : Option Nat :=
  match c.state with
  | .held q => some q
  | _ => none

/-- The record is OPEN. -/
def Record.isOpen (x : Record) : Bool := x.openState == .opened

/-- Every HELD contact owns an OPEN record of its meter, and every OPEN record is owned by a HELD contact (R36),
while the part is powered. -/
def State.HeldOwnOpen (s : State) : Prop :=
  s.powered = true →
    (∀ c ∈ s.main.contacts, ∀ q ∈ c.record,
      ∃ x ∈ s.ret.log, x.seq = q ∧ x.isOpen = true ∧ x.isReadOf c.meter = true) ∧
    ∀ x ∈ s.ret.log, x.isOpen = true → ∃ c ∈ s.main.contacts, c.record = some x.seq

/-! ## The alert slots -/

/-- The sequences the slots hold. -/
def Slots.held (x : Slots) : List Nat := slotNumbers.filterMap x.get

/-- The occupied slots name distinct records, and the SLOTTED records of the log are those and no other (R63),
while the part is powered. -/
def State.SlotsNameSlotted (s : State) : Prop :=
  s.powered = true →
    s.main.slots.held.Nodup ∧
    (∀ q ∈ s.main.slots.held, ∃ x ∈ s.ret.log, x.seq = q ∧ x.alert = .slotted) ∧
    ∀ x ∈ s.ret.log, x.alert = .slotted → x.seq ∈ s.main.slots.held

/-! ## The drain engine -/

/-- The batch is ascending and holds at most sixteen records; a record is SENT-IN-BATCH exactly when its
sequence is in it (R165), and then it is CLOSED (R168, R173); while the part is powered. -/
def State.BatchMarksAgree (s : State) : Prop :=
  s.powered = true →
    s.main.drain.batch.Pairwise (· < ·) ∧ s.main.drain.batch.length ≤ batchLimit ∧
    (∀ q ∈ s.main.drain.batch, ∃ x ∈ s.ret.log, x.seq = q) ∧
    ∀ x ∈ s.ret.log, (x.mark = .sentInBatch ↔ x.seq ∈ s.main.drain.batch) ∧
      (x.mark = .sentInBatch → x.isOpen = false)

/-- The drain engine's items agree with its state (R165, R172): IDLE has no dock and an empty batch, and the
commit-wait timer runs in AWAIT-COMMIT alone. -/
def Drain.Sound (d : Drain) : Prop :=
  (d.state = .idle → d.dock = none ∧ d.batch = []) ∧
    (d.state ≠ .idle → d.dock.isSome = true) ∧
    (d.commitWait.isSome = true ↔ d.state = .awaitCommit)

/-! ## The transmit queue -/

/-- The meters of the CLAIMs and YIELDs in the queue. -/
def claimMeters (q : List Post) : List MeterId := q.filterMap fun p => p.body.claimMeter

/-- The number of drain posts in the queue. -/
def drainPosts (q : List Post) : Nat := q.countP fun p => p.body.isDrain

/-- At most sixteen posts, never two STATUS, never two CLAIM or YIELD posts for one meter, and at most one
drain post (R80). -/
def Main.QueueSound (m : Main) : Prop :=
  m.queue.length ≤ queueLimit ∧ (m.queue.countP fun p => p.body.isStatus) ≤ 1 ∧
    (claimMeters m.queue).Nodup ∧ drainPosts m.queue ≤ 1

/-- The COUNT a BATCH-END carries is the number of records in BATCH (R169). -/
def PostBody.CountsBatch (b : PostBody) (d : Drain) : Prop :=
  ∀ n ends, b = .batchEnd n ends → n = d.batch.length

/-- DRAIN-POST says where the engine's one post stands (R165, R166, R169), a BATCH-END of the present batch counts
it, and the loss count of the current post is below sixteen (R78). -/
def Main.TransmitterAgrees (m : Main) : Prop :=
  (drainPosts m.queue = if m.drain.post = .queued then 1 else 0) ∧
    (m.drain.post = .current ↔ ∃ c ∈ m.current, c.post.body.isDrain = true) ∧
    (m.drain.state = .idle → m.drain.post = .none ∨ m.drain.post = .current) ∧
    (m.drain.state = .awaitCommit → m.drain.post = .none) ∧ (∀ p ∈ m.queue, p.body.CountsBatch m.drain) ∧
    ∀ c ∈ m.current, c.losses < lossLimit ∧ (c.dropAtLoss = true → c.attempt.isSome = true) ∧
      (c.post.body.isDrain = true → c.dropAtLoss = false →
        m.drain.state = .sending ∧ c.post.body.CountsBatch m.drain)

/-- The queue and the transmitter together. -/
def Main.LinkSound (m : Main) : Prop := m.QueueSound ∧ m.TransmitterAgrees

/-! ## Peers and MUTE -/

/-- The peer table has the fifteen entries in order, this station's own stays ABSENT without a running timer
(R95), and a station without a number is in MUTE (R92); while the part is powered. -/
def State.PeersSound (s : State) : Prop :=
  s.powered = true →
    s.main.peers.map Peer.station = [1, 2, 3, 4, 5, 6, 7, 8, 9, 10, 11, 12, 13, 14, 15] ∧
    (∀ p ∈ s.main.peers, p.station = s.main.strap → p.presence = .absent ∧ p.silence = none) ∧
    (∀ p ∈ s.main.peers, p.presence = .absent → p.role = none) ∧
    (s.main.strap = 0 → s.main.mute = true)

/-! ## The whole -/

/-- What the manual promises of the bindings between the blocks, together: each part needs the others to be
kept. -/
def State.Sound (s : State) : Prop :=
  s.EveryRetained Retained.LogSound ∧ s.main.ContactsSound ∧ s.main.LinkSound ∧ s.main.drain.Sound ∧
    s.HeldOwnOpen ∧ s.SlotsNameSlotted ∧ s.BatchMarksAgree

/-! ## The drain post of a cleared batch -/

/-- The main domain once the drain engine's post has been dealt with by where it stands (R166, step 2; R83): a WAITING
post is dropped, a QUEUED one leaves the queue, a CURRENT one is dropped between attempts, and during an attempt it
stays CURRENT until that attempt has ended. -/
def Main.withoutDrainPost (m : Main) : Main :=
  { m with
    queue := if m.drain.post = .queued then m.queue.filter fun p => !p.body.isDrain else m.queue
    current :=
      if m.drain.post = .queued ∨ m.drain.post = .current then
        m.current.bind (Current.reach PostBody.isDrain)
      else m.current
    drain := { m.drain with
      post :=
        if m.drain.post = .current ∧ (m.current.any fun c => c.attempt.isSome) = true then .current
        else .none } }

/-- The main domain once a drain in progress has ended early (section 9.4): the engine's post is dealt with, the batch
is empty, the commit wait is stopped, and the engine is IDLE without a dock. An engine that is IDLE stays as it is. -/
def Main.drainEnded (m : Main) : Main :=
  if m.drain.state = .idle then m
  else
    { m.withoutDrainPost with
      drain := { state := .idle, dock := none, batch := [], position := 0,
                 post := m.withoutDrainPost.drain.post, commitWait := none } }

/-! ## The effective configuration -/

/-- Every setting lies in its range (R194), and peer silence is at least twice the status interval. -/
def settingsInRange (c : Settings) : Prop :=
  c.sector ≤ 3 ∧ c.portA.levelOffset ≤ 15 ∧ c.portB.levelOffset ≤ 15 ∧
    c.prefixValue &&& c.prefixMask = c.prefixValue ∧ 1 ≤ c.window ∧ c.window ≤ 60 ∧ 2 ≤ c.limit ∧
    c.limit ≤ 8 ∧ 2 ≤ c.idleTimeout ∧ c.idleTimeout ≤ 60 ∧ c.holdOff ≤ 50 ∧ 2 ≤ c.settle ∧
    c.settle ≤ 50 ∧ 1 ≤ c.statusInterval ∧ c.statusInterval ≤ 20 ∧ 2 * c.statusInterval ≤ c.peerSilence ∧
    2 ≤ c.peerSilence ∧ c.peerSilence ≤ 60 ∧ 1 ≤ c.threshold ∧ c.threshold ≤ 3 ∧ c.stallAge ≤ 65535 ∧
    1 ≤ c.commitWait ∧ c.commitWait ≤ 10 ∧ 5 ≤ c.parkReturn ∧ c.parkReturn ≤ 120 ∧ c.supplyLevel ≤ 7

/-! ## Conditions the statements name -/

/-- The receiver takes a post that ends now, from station `src`, another station than this one (R85, R87). -/
def State.TakesFrom (s : State) (src : BitVec 4) : Prop :=
  s.receives = true ∧ src ≠ 0#4 ∧ src.toNat ≠ s.main.strap

/-- A well-formed burst (R11). -/
def Burst.WellFormed (b : Burst) : Prop :=
  b.version = 1 ∧ 4 ≤ b.dials ∧ b.dials ≤ 8 ∧ b.reading < 10 ^ b.dials ∧ b.meter ≠ 0#32 ∧
    b.meter ≠ 0xFFFFFFFF#32

/-- A burst that passes the utility test and the prefix test (R12). -/
def passesFilter (c : Settings) (b : Burst) : Prop :=
  c.acceptMask.getLsbD b.utility = true ∧ b.meter &&& c.prefixMask = c.prefixValue

/-- The meter is on-route (R14). -/
def State.OnRoute (s : State) (m : MeterId) : Prop :=
  s.ret.routeState = .running ∧ ∃ e ∈ s.ret.entries, e.meter = m

/-- The frame passes checks 1 to 7 (R10 to R14). -/
def State.PassesEarlyChecks (s : State) (f : Frame) : Prop :=
  f.isExact = true ∧ burstCheckOk f.bytes = true ∧ (decodeBurst f.bytes).WellFormed ∧
    passesFilter s.main.cfg (decodeBurst f.bytes) ∧ s.main.supply = .normal ∧ s.ret.routeState ≠ .closing ∧
    (s.OnRoute (decodeBurst f.bytes).meter ∨ s.main.cfg.strayCapture = true)

/-- The bursts a port's ten disposition counters count, modulo 2^32 (R18). -/
def PortCounters.taken (c : PortCounters) : Counter :=
  c.malformedLength + c.checkFailed + c.malformed + c.filtered + c.sagDropped + c.closingDropped +
    c.strayDropped + c.refusedFull + c.duplicate + c.accepted

/-- The state in which a post received from station `src` of role `role` is acted on: the step has begun, the post has
ended on the line (R85), and the peer table has heard the sender (R96). -/
def State.heardFrom (s : State) (src : Nat) (role : Role) : State :=
  ((s.begin).setLine .quiet).hearPeer src role

/-- The same for an addressed post: the park-return timer has restarted as well (R188). -/
def State.hearing (s : State) (src : BitVec 4) (role : Role) : State :=
  (s.heardFrom src.toNat role).restartParkReturn

end Sys2Proof.Machine
end

