-- ==== Sys2Proof/Certificates/Slice0/Obligations.lean ====
section
/-! DEFINITION. The statements for the provers, in the order of the manual's chapters: the step, the ports,
contacts and evaluation, alerts, the link, claims, the route, the log and its drain, supply and start-up, and
the bounds every step keeps. -/

open Sys2Proof Sys2Proof.Machine

/-! ## The step -/

/-- A step takes the command at the front of the queue and has its effect on the state with the queue's rest. -/
def Obligations.StepTakesFrontCommand : Prop :=
  ∀ (c : Instr) (rest : List Instr) (s : State), step { s with pending := c :: rest } = exec c { s with pending := rest }

/-- With no command waiting, a step is one millisecond in which the clocks and the timers alone move (the model's
choice, log entry 2). The clocks run while the retained domain is kept, on VMAIN or on VBAK (R127, R184); the timers
run while the part is powered (R183). -/
def Obligations.IdleStepPassesOneMillisecond : Prop :=
  ∀ s : State, s.pending = [] →
    step s = .next { s with
      journal := []
      ret :=
        if s.ret.retentionValid = true then { s.ret with
          stationClock := min (s.ret.stationClock + 1) 281474976710655
          routeClock :=
            if s.ret.routeState = .noRoute ∨ s.ret.routeState = .loading then s.ret.routeClock
            else min (s.ret.routeClock + (s.ret.routePhase + 1) / 1000) 4294967295
          routePhase :=
            if s.ret.routeState = .noRoute ∨ s.ret.routeState = .loading then s.ret.routePhase
            else (s.ret.routePhase + 1) % 1000 }
        else s.ret
      main :=
        if s.powered = true then { s.main with
          contacts := s.main.contacts.map fun c =>
            { c with idle := c.idle.map (· - 1), holdOff := c.holdOff.map (· - 1),
                     settle := c.settle.map (· - 1) }
          statusTimer := s.main.statusTimer.map (· - 1)
          peers := s.main.peers.map fun p => { p with silence := p.silence.map (· - 1) }
          drain := { s.main.drain with commitWait := s.main.drain.commitWait.map (· - 1) }
          wakeSettle := s.main.wakeSettle.map (· - 1)
          parkReturn := s.main.parkReturn.map (· - 1) }
        else s.main }

/-! ## Burst ports and acceptance -/

/-- A stretch of a port's line activity, after the time it carries (log entries 2 and 9). A running port takes up a
frame at a rise of frame-valid and goes on with the one it holds (R1, R5): until frame-valid falls, the frame is in
progress; when it falls, a frame without a bit is none, and another is stored as the newest with its first fifteen
whole bytes, EXACT and TIME (R1, R3), or costs one frame by the port's OVERRUN-POLICY and one count of OVERRUN on a
full port (R4). A stopped port, and a port whose frame in progress a stop or a flush has ended or that began to run
with frame-valid high, takes up nothing until frame-valid has been low (R1, R5, R6). A run of bits has one whole
byte for each eight, the first bit the most significant of its byte (R1), and a port runs while start-up has ended,
its ENABLE is on and the park state is RUN (R5). -/
def Obligations.CompletedFrameIsStoredLostOrIgnored : Prop :=
  (∀ bits : List Bool,
    (packBits bits).length = bits.length / 8 ∧
    ∀ k j, 8 * k + 8 ≤ bits.length → j < 8 →
      (byteAt (packBits bits) k).getLsbD (7 - j) = bits.getD (8 * k + j) false) ∧
  (∀ (p : Port) (s : State), s.portRuns p = true ↔
    s.powered = true ∧ s.main.park = .run ∧
      (match p with | .a => s.main.cfg.portA.enable | .b => s.main.cfg.portB.enable) = true) ∧
  (∀ (p : Port) (wait : Nat) (bits frame : List Bool) (s : State),
    s.portRuns p = true →
    (s.pins.frameValid p = false ∧ frame = bits ∨
      s.pins.frameValid p = true ∧ ∃ held, (s.main.port p).receiving = some held ∧ frame = held ++ bits) →
    let u := (s.begin).passTime wait
    let level (high : Bool) (x : PortState) : Host.Outcome State Fault Refusal :=
      .next (({ u with pins := s.pins.setFrameValid p high } : State).setPort p x)
    let whole : Frame :=
      { bytes := (packBits frame).take 15, isExact := decide (frame.length = 120),
        time := u.ret.stationClock }
    let x := s.main.port p
    exec (.frameComplete p wait bits false) s = level true { x with receiving := some frame } ∧
    (frame = [] → exec (.frameComplete p wait bits true) s = level false { x with receiving := none }) ∧
    (frame ≠ [] → x.slots.length < 2 → exec (.frameComplete p wait bits true) s =
      level false { x with receiving := none, slots := x.slots ++ [whole] }) ∧
    ∀ older newer, frame ≠ [] → x.slots = [older, newer] →
      exec (.frameComplete p wait bits true) s = level false
        { receiving := none
          slots :=
            if (portSettings s.main.cfg p).keepNewest then [newer, whole] else [older, newer]
          counters := { x.counters with overrun := x.counters.overrun + 1 } }) ∧
  (∀ (p : Port) (wait : Nat) (bits : List Bool) (falls : Bool) (s : State),
    s.portRuns p = false ∨ (s.pins.frameValid p = true ∧ (s.main.port p).receiving = none) →
    exec (.frameComplete p wait bits falls) s = .next
      (({ (s.begin).passTime wait with pins := s.pins.setFrameValid p (!falls) } : State).setPort p
        { s.main.port p with receiving := none }))

/-- A take removes the oldest stored frame of its port and adds one to exactly one of that port's ten disposition
counters: the other nine, OVERRUN, the frame in progress and the other port stay as they are (R7, R18). -/
def Obligations.TakeCountsOneDisposition : Prop :=
  ∀ (p : Port) (s : State) (f : Frame) (rest : List Frame), (s.main.port p).slots = f :: rest →
    let n := (s.main.port p).counters
    ∃ t x, exec (.take p) s = .next t ∧
      t.main.port p = { s.main.port p with slots := rest, counters := x } ∧
      (x = { n with malformedLength := n.malformedLength + 1 } ∨
        x = { n with checkFailed := n.checkFailed + 1 } ∨ x = { n with malformed := n.malformed + 1 } ∨
        x = { n with filtered := n.filtered + 1 } ∨ x = { n with sagDropped := n.sagDropped + 1 } ∨
        x = { n with closingDropped := n.closingDropped + 1 } ∨
        x = { n with strayDropped := n.strayDropped + 1 } ∨
        x = { n with refusedFull := n.refusedFull + 1 } ∨ x = { n with duplicate := n.duplicate + 1 } ∨
        x = { n with accepted := n.accepted + 1 }) ∧
      x.taken = n.taken + 1 ∧ ∀ q, q ≠ p → t.main.port q = s.main.port q

/-- Checks 1 to 8 in their order: the first that holds gives the disposition, its counter alone rises, and the burst
is not handed on, so nothing else changes (R10 to R15, R17). The burst of fifteen frame bytes has each field at its
position of section 11.1, the bits above RESETS and above the five flags not read (R9, R200), and check 2 compares
the check word over burst bytes 0 to 11 with burst bytes 12 and 13 (R10). -/
def Obligations.FirstFailedCheckDropsBurst : Prop :=
  (∀ bytes : List Byte, bytes.length = 15 →
    let burst (i : Nat) : Nat := (byteAt bytes (i + 1)).toNat
    let b := decodeBurst bytes
    b.meter.toNat = burst 0 * 2 ^ 24 + burst 1 * 2 ^ 16 + burst 2 * 2 ^ 8 + burst 3 ∧
      b.version = burst 4 / 16 ∧ b.utility = burst 4 % 16 ∧ b.dials = burst 5 / 16 ∧
      b.reading = burst 5 % 16 * 2 ^ 24 + burst 6 * 2 ^ 16 + burst 7 * 2 ^ 8 + burst 8 ∧
      b.counter = burst 9 ∧ b.resets = burst 10 % 16 ∧ b.flags.toNat = burst 11 % 32 ∧
      (burstCheckOk bytes = true ↔
        checkWord ((bytes.drop 1).take 12) = burst 12 * 256 + burst 13)) ∧
  ∀ (p : Port) (s : State) (f : Frame) (rest : List Frame), (s.main.port p).slots = f :: rest →
    let b := decodeBurst f.bytes
    let n := (s.main.port p).counters
    let counted (x : PortCounters) : Host.Outcome State Fault Refusal :=
      .next ((s.begin).setPort p { s.main.port p with slots := rest, counters := x })
    (f.isExact = false →
      exec (.take p) s = counted { n with malformedLength := n.malformedLength + 1 }) ∧
    (f.isExact = true →
      (burstCheckOk f.bytes = false →
        exec (.take p) s = counted { n with checkFailed := n.checkFailed + 1 }) ∧
      (burstCheckOk f.bytes = true →
        (¬ b.WellFormed → exec (.take p) s = counted { n with malformed := n.malformed + 1 }) ∧
        (b.WellFormed →
          (¬ passesFilter s.main.cfg b →
            exec (.take p) s = counted { n with filtered := n.filtered + 1 }) ∧
          (passesFilter s.main.cfg b →
            (s.main.supply = .sag →
              exec (.take p) s = counted { n with sagDropped := n.sagDropped + 1 }) ∧
            (s.main.supply = .normal →
              (s.ret.routeState = .closing →
                exec (.take p) s = counted { n with closingDropped := n.closingDropped + 1 }) ∧
              (s.ret.routeState ≠ .closing →
                (¬ s.OnRoute b.meter → s.main.cfg.strayCapture = false →
                  exec (.take p) s = counted { n with strayDropped := n.strayDropped + 1 }) ∧
                ((s.OnRoute b.meter ∨ s.main.cfg.strayCapture = true) →
                  192 ≤ s.main.contacts.length →
                  (∀ c ∈ s.main.contacts, c.meter ≠ b.meter ∧ c.isCeded = false) →
                  exec (.take p) s = counted { n with refusedFull := n.refusedFull + 1 })))))))

/-- A DUPLICATE burst raises its contact's best quality and last arrival and restarts the idle timer; the ring, the
arrivals, the reading fields and the findings stay (R8, R16, R17, R30). At a HELD contact the open record takes the
quality and the last-heard time as well, and nothing else of it moves (R30, R37, R38); in every other state no
record does. -/
def Obligations.DuplicateReachesQualityAndIdleAlone : Prop :=
  ∀ (p : Port) (s : State) (f : Frame) (rest : List Frame) (c : Contact) (e : RingEntry),
    (s.main.port p).slots = f :: rest → s.PassesEarlyChecks f →
    s.contactOf (decodeBurst f.bytes).meter = some c → c.ring.getLast? = some e →
    e.counter = (decodeBurst f.bytes).counter → e.reading = (decodeBurst f.bytes).reading →
    e.flags = (decodeBurst f.bytes).flags →
    let quality := max c.bestQuality
      (min (byteAt f.bytes 0).toNat 63 - (portSettings s.main.cfg p).levelOffset)
    let heard := max c.lastArrival f.time
    let u := ((s.begin).setPort p
      { s.main.port p with
        slots := rest
        counters := { (s.main.port p).counters with
          duplicate := (s.main.port p).counters.duplicate + 1 } }).setContact
      { c with
        bestQuality := quality
        lastArrival := heard
        idle := some (s.main.cfg.idleTimeout * 1000)
        idlePending := false }
    ((∀ q, c.state ≠ .held q) → exec (.take p) s = .next u) ∧
    ∀ q, c.state = .held q → exec (.take p) s = .next (u.write fun r => { r with
      log := r.log.map fun x =>
        if x.seq = q then
          match x.body with
          | .read g => { x with body := .read { g with
              quality := quality
              lastHeard := if x.route = 0 then heard / 1000
                else r.routeClock - (r.stationClock - heard) / 1000 } }
          | _ => x
        else x })

/-- The first burst of a meter that has no contact creates one, which takes the burst as its first counted arrival
(R15, R23, R26, R29). A meter without a route entry, with stray capture on, gets a LISTENING contact with STRAY and
no evaluation (R25, R56). A meter on a RUNNING route gets one without STRAY whose standing follows its entry (R25):
READ-HERE gives LISTENING with REREAD, READ-PEER of a PRESENT peer gives CEDED to its HELD claim, and every other
entry LISTENING; the burst is evaluated in full against the entry (R41). In a full table the CEDED contact of
eviction goes first (R24). With a hold-off the contact waits for its eligibility; with hold-off 0 it is eligible at
once and makes its claim attempt (R34, R35). -/
def Obligations.FirstStrayBurstCreatesContact : Prop :=
  ∀ (p : Port) (s : State) (f : Frame) (rest : List Frame),
    (s.main.port p).slots = f :: rest → s.PassesEarlyChecks f →
    (∀ c ∈ s.main.contacts, c.meter ≠ (decodeBurst f.bytes).meter) →
    s.main.contacts.length < 192 ∨ (∃ c ∈ s.main.contacts, c.isCeded = true) → 1 ≤ s.main.cfg.limit →
    let b := decodeBurst f.bytes
    let counted := (s.begin).setPort p
      { s.main.port p with
        slots := rest
        counters := { (s.main.port p).counters with
          accepted := (s.main.port p).counters.accepted + 1 } }
    let roomed : State :=
      if s.main.contacts.length < 192 then counted
      else
        match evictionVictim s.main.contacts with
        | some v => counted.dropContact v.meter
        | none => counted
    let fresh (standing : ContactState) (stray reread : Bool) (r : EvalResult) : Contact :=
      { meter := b.meter, utility := b.utility, state := standing, firstArrival := f.time,
        lastArrival := f.time,
        bestQuality := min (byteAt f.bytes 0).toNat 63 - (portSettings s.main.cfg p).levelOffset,
        arrivals := 1,
        ring := [{ time := f.time, counter := b.counter, reading := b.reading, flags := b.flags }],
        reading := b.reading, dials := b.dials, resets := b.resets, flags := b.flags,
        findings := b.flags.setWidth 12 ||| r.findings, measures := r.measures, stray := stray,
        reread := reread, noroom := false, solo := false, eligible := false, idlePending := false,
        idle := some (s.main.cfg.idleTimeout * 1000), holdOff := some (s.main.cfg.holdOff * 100),
        settle := none }
    let enters (c : Contact) : Prop :=
      (s.main.cfg.holdOff ≠ 0 → exec (.take p) s = .next (roomed.addContact c)) ∧
      (s.main.cfg.holdOff = 0 → exec (.take p) s =
        .next ((roomed.addContact { c with eligible := true, holdOff := none }).attemptClaim b.meter))
    ((∀ e ∈ s.ret.entries, e.meter ≠ b.meter) ∨ s.ret.routeState ≠ .running →
      enters (fresh .listening true false { findings := 0, direction := none, measures := none })) ∧
    ∀ e, s.ret.routeState = .running → s.ret.entryOf b.meter = some e →
      let r := evalFull
        { n := b.reading, d := b.dials, k := b.resets, p := e.p, dr := e.dr, a := e.a, c := e.c,
          b := e.b, kr := e.kr, z := e.z, v := none, t := s.ret.routeClock, s := s.main.cfg.stallAge }
      let present (n : Nat) : Prop := ∃ x ∈ s.main.peers, x.station = n ∧ x.presence = .present
      (e.state = .readHere → enters (fresh .listening false true r)) ∧
      (∀ n q, e.state = .readPeer n q →
        (present n → enters
          (fresh (.ceded { station := n, quality := q, hold := .held }) false false r)) ∧
        (¬ present n → enters (fresh .listening false false r))) ∧
      (e.state ≠ .readHere → e.isReadPeer = false → enters (fresh .listening false false r))

/-- A counted arrival at a contact that has one before. In every state the contact takes the burst's fields, the
ring its newest eight entries, the findings of the flags, of SPLIT by the counter, of CHATTER and of the evaluation,
the arrival its count, the idle timer restarts, and ACCEPTED counts it (R16, R18, R26 to R29, R41, R42). A contact
with STRAY, or one without an entry of a RUNNING route, has the stray treatment, with the jitter allowance of the
meter's entry in every route state (R56; log entry 6, DEDUCED). At a HELD contact, STRAY or not, the open record
follows: reading fields, measures, quality, last-heard time, arrivals and findings, its other marks kept, and it is
raised when it now qualifies (R37, R38, R54, R62, R157); in RUNNING alone (log entry 6) the meter's entry, a late
one too, takes the reading as Z and gains the contact's findings (R38, R132); every other record and entry and the
rest of the main domain stay. In the other states no record moves: an eligible contact makes a claim attempt, one
that becomes eligible does so then, and another waits (R34, R35). -/
def Obligations.CountedArrivalUpdatesOpenRecord : Prop :=
  ∀ (p : Port) (s : State) (f : Frame) (rest : List Frame) (c : Contact) (last : RingEntry),
    let b := decodeBurst f.bytes
    let d := (b.counter + 256 - last.counter) % 256
    (s.main.port p).slots = f :: rest → s.PassesEarlyChecks f → s.contactOf b.meter = some c →
    c.ring.getLast? = some last → ¬ (d = 0 ∧ b.reading = last.reading ∧ b.flags = last.flags) →
    let full (e : RouteEntry) : EvalResult := evalFull
      { n := b.reading, d := b.dials, k := b.resets, p := e.p, dr := e.dr, a := e.a, c := e.c,
        b := e.b, kr := e.kr, z := e.z, v := some last.reading, t := s.ret.routeClock,
        s := s.main.cfg.stallAge }
    let r : EvalResult :=
      match s.ret.entryOf b.meter with
      | some e =>
        if s.ret.routeState = .running ∧ c.stray = false then full e
        else evalStray b.reading b.dials e.b (some last.reading)
      | none => evalStray b.reading b.dials 0 (some last.reading)
    let within := c.ring.filter fun x => decide (f.time < x.time + s.main.cfg.window * 1000)
    let gained : FindingSet := b.flags.setWidth 12 |||
      findingIf (decide (d = 0 ∨ 128 ≤ d)) .split |||
      findingIf (decide (s.main.cfg.limit < within.length + 1)) .chatter ||| r.findings
    let entry : RingEntry :=
      { time := f.time, counter := b.counter, reading := b.reading, flags := b.flags }
    let c' : Contact :=
      { c with
        utility := b.utility, reading := b.reading, dials := b.dials, resets := b.resets
        flags := c.flags ||| b.flags, lastArrival := max c.lastArrival f.time
        bestQuality := max c.bestQuality
          (min (byteAt f.bytes 0).toNat 63 - (portSettings s.main.cfg p).levelOffset)
        arrivals := min (c.arrivals + 1) 65535, findings := c.findings ||| gained
        measures := r.measures, ring := (c.ring ++ [entry]).drop (c.ring.length + 1 - 8)
        idle := some (s.main.cfg.idleTimeout * 1000), idlePending := false }
    let u := (s.begin).setPort p
      { s.main.port p with
        slots := rest
        counters := { (s.main.port p).counters with
          accepted := (s.main.port p).counters.accepted + 1 } }
    ((∀ q, c.state ≠ .held q) →
      (c.eligible = true → exec (.take p) s = .next ((u.setContact c').attemptClaim b.meter)) ∧
      (c.eligible = false →
        (2 ≤ c'.arrivals ∨ s.main.cfg.holdOff = 0 → exec (.take p) s =
          .next ((u.setContact { c' with eligible := true, holdOff := none }).attemptClaim b.meter)) ∧
        (c'.arrivals < 2 → s.main.cfg.holdOff ≠ 0 → exec (.take p) s = .next (u.setContact c')))) ∧
    ∀ (q : Nat) (x : Record) (g : ReadFields),
      s.ret.LogInOrder → c.state = .held q → s.ret.recordOf q = some x → x.body = .read g →
      let seconds : Nat :=
        if x.route = 0 then c'.lastArrival / 1000
        else s.ret.routeClock - (s.ret.stationClock - c'.lastArrival) / 1000
      let h : ReadFields :=
        { g with
          utility := b.utility, reading := b.reading, dials := b.dials, resets := b.resets
          measures := r.measures, flags := c'.flags, quality := c'.bestQuality
          arrivals := c'.arrivals, lastHeard := seconds, findings := g.findings ||| c'.findings }
      let watched := (s.ret.entries.find? fun e => e.meter == g.meter).any fun e => e.watch
      let y : Record :=
        { x with
          body := .read h
          alert := if x.openState = .opened ∧ x.alert = .none ∧
            qualifies h.findings s.main.cfg.threshold watched = true then .pending else x.alert }
      let c'' : Contact :=
        if c.eligible = false ∧ (2 ≤ c'.arrivals ∨ s.main.cfg.holdOff = 0) then
          { c' with eligible := true, holdOff := none }
        else c'
      ∃ t, exec (.take p) s = .next t ∧ t.main = (u.setContact c'').main ∧
        t.ret = { s.ret with
          log := s.ret.log.map fun w => if w.seq = q then y else w
          entries :=
            if s.ret.routeState = .running then s.ret.entries.map fun e =>
              if e.meter = b.meter then
                { e with z := some b.reading, findings := e.findings ||| c'.findings }
              else e
            else s.ret.entries } ∧
        t.powered = s.powered ∧ t.backup = s.backup ∧ t.pins = s.pins ∧ t.pending = s.pending

/-- Eviction on a full table takes the CEDED contact with the earliest LAST-ARRIVAL, and among equals the lowest
METER-ID; with no CEDED contact none can be had (R24). -/
def Obligations.EvictionTakesEarliestCeded : Prop :=
  ∀ cs : List Contact,
    (evictionVictim cs = none ↔ ∀ c ∈ cs, c.isCeded = false) ∧
    ∀ v, evictionVictim cs = some v →
      v ∈ cs ∧ v.isCeded = true ∧
      ∀ c ∈ cs, c.isCeded = true →
        v.lastArrival < c.lastArrival ∨
          (v.lastArrival = c.lastArrival ∧ v.meter.toNat ≤ c.meter.toNat)

/-! ## Reading evaluation -/

/-- Steps 2 and 3 for equal dial counts: with Δ = (N − P) mod 10^D the direction is ZERO at 0, FORWARD below the
backward window, and in the window JITTER up to B units back and BACKWARD beyond, with the advance each stores and
ROLLBACK for BACKWARD alone (R44, R45). D is at least 4, as every burst's that passes check 3 (R11). -/
def Obligations.AdvanceAndDirectionByBackwardWindow : Prop :=
  ∀ i : EvalInput, i.d = i.dr → 4 ≤ i.d →
    let delta : Nat := (((i.n : Int) - (i.p : Int)) % ((10 ^ i.d : Nat) : Int)).toNat
    let m : Nat := 10 ^ i.d - delta
    let r := evalFull i
    delta < 10 ^ i.d ∧
    (delta = 0 → r.direction = some .zero ∧ r.measures.map Measures.advance = some 0) ∧
    (1 ≤ delta → delta < 10 ^ i.d - 10 ^ (i.d - 1) →
      r.direction = some .forward ∧ r.measures.map Measures.advance = some (delta : Int)) ∧
    (10 ^ i.d - 10 ^ (i.d - 1) ≤ delta → m ≤ i.b →
      r.direction = some .jitter ∧ r.measures.map Measures.advance = some 0) ∧
    (10 ^ i.d - 10 ^ (i.d - 1) ≤ delta → i.b < m →
      r.direction = some .backward ∧ r.measures.map Measures.advance = some (-(m : Int))) ∧
    (hasFinding r.findings .rollback = true ↔ r.direction = some .backward)

/-- Steps 4 and 5: E is A and the whole minutes of the route, saturating at 1,048,575; R is floor(Δ × 60 / max(E,
1)) for FORWARD, saturating at 65535, and 0 otherwise; EXCESS is raised when C is not 0 and R > C; STALL when S is
not 0, the direction is ZERO or JITTER and E ≥ S (R46, R47, R48, R49). -/
def Obligations.RateExcessAndStall : Prop :=
  ∀ i : EvalInput, i.d = i.dr →
    let e := min (i.a + i.t / 60) 1048575
    let r := evalFull i
    let delta := (((i.n : Int) - (i.p : Int)) % ((10 ^ i.d : Nat) : Int)).toNat
    let rate := if r.direction = some .forward then min (delta * 60 / max e 1) 65535 else 0
    r.measures.map Measures.rate = some rate ∧
    (hasFinding r.findings .excess = true ↔ i.c ≠ 0 ∧ i.c < rate) ∧
    (hasFinding r.findings .stall = true ↔
      i.s ≠ 0 ∧ (r.direction = some .zero ∨ r.direction = some .jitter) ∧ i.s ≤ e)

/-- Steps 1 and 6: a dial count other than the billed one adds DIALS, leaves the measures absent and keeps ROLLBACK,
EXCESS and STALL away; RESTART is added exactly when the billed reset count is present and differs, whether or not
DIALS is found (R43, R50, R54). Steps 7 and 8: SPLIT is added exactly when the reading lies in the backward window
of the last logged reading Z or of the previous arrival V, by more than B units, both under the modulus of the
burst's own dial count (R51, R52, R53). The stray treatment makes step 8 alone and leaves the measures absent (R56).
-/
def Obligations.DialRestartAndSplitChecks : Prop :=
  (∀ i : EvalInput,
    let r := evalFull i
    (hasFinding r.findings .dials = true ↔ i.d ≠ i.dr) ∧
    (i.d ≠ i.dr → r.measures = none ∧ r.direction = none ∧ hasFinding r.findings .rollback = false ∧
      hasFinding r.findings .excess = false ∧ hasFinding r.findings .stall = false) ∧
    (hasFinding r.findings .restart = true ↔ ∃ kr, i.kr = some kr ∧ i.k ≠ kr)) ∧
  ((∀ i : EvalInput,
    let behind (ref : Nat) : Prop :=
      let delta := (((i.n : Int) - (ref : Int)) % ((10 ^ i.d : Nat) : Int)).toNat
      10 ^ i.d - 10 ^ (i.d - 1) ≤ delta ∧ i.b < 10 ^ i.d - delta
    hasFinding (evalFull i).findings .split = true ↔
      (∃ z, i.z = some z ∧ behind z) ∨ ∃ v, i.v = some v ∧ behind v) ∧
  ∀ (n d b : Nat) (v : Option Nat),
    let r := evalStray n d b v
    r.measures = none ∧ r.direction = none ∧ r.findings = evalAgainst n d b v ∧
    (hasFinding r.findings .split = true ↔ ∃ ref, v = some ref ∧
      let delta := (((n : Int) - (ref : Int)) % ((10 ^ d : Nat) : Int)).toNat
      10 ^ d - 10 ^ (d - 1) ≤ delta ∧ b < 10 ^ d - delta))

/-! ## Contacts: expiries, attempts and settling -/

/-- The idle expiry of a contact, after the time its timer has left (log entry 2): LISTENING and CEDED contacts are
removed, a HELD contact's record is closed and the contact removed, and a CLAIMING contact stays with IDLE-PENDING
set (R32, R33, R39). -/
def Obligations.IdleExpiryActsByState : Prop :=
  ∀ (m : MeterId) (s : State) (c : Contact) (left : Nat),
    s.powered = true → s.contactOf m = some c → c.idle = some left →
    let u := (s.begin).passTime left
    (c.state = .listening ∨ c.isCeded = true → exec (.idleExpiry m) s = .next (u.dropContact m)) ∧
    (∀ q, c.state = .held q → exec (.idleExpiry m) s =
      .next ((u.write fun r => { r with
        log := r.log.map fun x => if x.seq = q then { x with openState := .closed } else x }).dropContact m)) ∧
    (c.state = .claiming → exec (.idleExpiry m) s =
      .next (u.setContact { c.passTime left with idlePending := true, idle := none }))

/-- A claim attempt is made by a LISTENING contact alone (R35), by the five tests in order: NOROOM without room;
CEDED, without a post, to a claimant of its entry that beats its claim; HELD, without a post, with REREAD or in
MUTE; otherwise a CLAIMING CLAIM is offered, and the contact goes CLAIMING when it is admitted and stays LISTENING
when it is refused (R101 to R105). The hold-off expiry, after the time its timer has left (log entry 2), makes its
contact eligible; a LISTENING one makes its claim attempt then, and another makes none (R34, R35). The log has room
when the occupancy and the reservation leave one of 4096 records and the sequence numbers one beside the reserved
(R152, R154). -/
def Obligations.HoldOffExpiryMakesClaimAttempt : Prop :=
  (∀ r : Retained, r.room = true ↔
    let kept := if r.reserved = true then 1 else 0
    r.log.length + kept < 4096 ∧ r.nextSeq + kept ≤ 4294967295) ∧
  (∀ (m : MeterId) (s : State) (c : Contact), s.contactOf m = some c →
    let claim : Post := { mask := 0xFFFE#16, body := .claim m c.bestQuality .claiming }
    let better (k : Claim) : Prop :=
      s.ret.routeState = .running ∧ (∃ e, s.ret.entryOf m = some e ∧ e.state.claimant = some k) ∧
        k.beats { station := s.ownNumber, quality := c.bestQuality, hold := .claiming } = true
    (c.state ≠ .listening → s.attemptClaim m = s) ∧
    (c.state = .listening → s.ret.room = false →
      s.attemptClaim m = s.setContact { c with noroom := true }) ∧
    (c.state = .listening → s.ret.room = true →
      (∀ k, better k → s.attemptClaim m = s.setContact { c with state := .ceded k }) ∧
      ((∀ k, ¬ better k) →
        (c.reread = true ∨ s.main.mute = true → s.attemptClaim m = s.enterHeld c) ∧
        (c.reread = false → s.main.mute = false →
          (s.takesOffer claim = true → s.attemptClaim m = (s.offer claim).setContact
            { c with state := .claiming, noroom := false, settle := some (s.main.cfg.settle * 100) }) ∧
          (s.takesOffer claim = false → s.attemptClaim m = s))))) ∧
  (∀ (m : MeterId) (s : State) (c : Contact) (left : Nat),
    s.powered = true → s.contactOf m = some c → c.holdOff = some left → c.state ≠ .listening →
    exec (.holdOffExpiry m) s = .next (((s.begin).passTime left).setContact
      { c.passTime left with eligible := true, holdOff := none })) ∧
  ∀ (m : MeterId) (s : State) (c : Contact) (left : Nat),
    s.powered = true → s.contactOf m = some c → c.holdOff = some left → c.state = .listening →
    let u := (s.begin).passTime left
    let c' : Contact := { c.passTime left with eligible := true, holdOff := none }
    let claim : Post := { mask := 0xFFFE#16, body := .claim m c.bestQuality .claiming }
    let better (k : Claim) : Prop :=
      u.ret.routeState = .running ∧ (∃ e, u.ret.entryOf m = some e ∧ e.state.claimant = some k) ∧
        k.beats { station := s.ownNumber, quality := c.bestQuality, hold := .claiming } = true
    (u.ret.room = false →
      exec (.holdOffExpiry m) s = .next (u.setContact { c' with noroom := true })) ∧
    (u.ret.room = true →
      (∀ k, better k → exec (.holdOffExpiry m) s = .next (u.setContact { c' with state := .ceded k })) ∧
      ((∀ k, ¬ better k) →
        (c.reread = true ∨ s.main.mute = true →
          exec (.holdOffExpiry m) s = .next ((u.setContact c').enterHeld c')) ∧
        (c.reread = false → s.main.mute = false →
          (u.takesOffer claim = true → exec (.holdOffExpiry m) s =
            .next ((u.offer claim).setContact
              { c' with state := .claiming, noroom := false,
                        settle := some (s.main.cfg.settle * 100) })) ∧
          (u.takesOffer claim = false → exec (.holdOffExpiry m) s = .next (u.setContact c')))))

/-- The settle expiry of a CLAIMING contact, after the time its timer has left (log entry 2): with room it enters
HELD and announces a HELD CLAIM; without room it offers a YIELD, returns to LISTENING with NOROOM, and its entry
becomes DUE while the route is RUNNING; a deferred idle expiry then removes it as the state it has reached requires
(R33, R107, R108). -/
def Obligations.SettleExpiryHoldsOrYields : Prop :=
  ∀ (m : MeterId) (s : State) (c : Contact) (left : Nat),
    s.powered = true → s.contactOf m = some c → c.settle = some left → c.state = .claiming →
    let u := (s.begin).passTime left
    let c' := c.passTime left
    let held := (u.enterHeld c').offer { mask := 0xFFFE#16, body := .claim m c.bestQuality .held }
    let yielded :=
      ((u.offer { mask := 0xFFFE#16, body := .yield m }).setContact
        { c' with state := .listening, noroom := true, settle := none }).changeEntry m
          fun e => { e with state := .due }
    (u.ret.room = true →
      (c.idlePending = false → exec (.settleExpiry m) s = .next held) ∧
      (c.idlePending = true → exec (.settleExpiry m) s =
        .next ((held.write fun r => r.updRecord u.ret.nextSeq Record.close).dropContact m))) ∧
    (u.ret.room = false →
      (c.idlePending = false → exec (.settleExpiry m) s = .next yielded) ∧
      (c.idlePending = true → exec (.settleExpiry m) s = .next (yielded.dropContact m)))

/-- Entering HELD opens one READ record at the newest end with the next sequence number, OPEN and UNSENT, filled
from the contact with SOLO in MUTE and DOUBLE from the entry, raised when its findings qualify, in SAG too (log
entry 14); while the route is RUNNING (log entry 6) the meter's entry takes Z and the findings and becomes
READ-HERE. Every other record, every other entry and all of the main domain but the contact stay (R36, R37, R62,
R100, R122, R125, R151, R156). -/
def Obligations.EnteringHeldOpensOneRecord : Prop :=
  ∀ (s : State) (c : Contact), s.ret.LogInOrder →
    let t := s.enterHeld c
    let route := if s.ret.routeState = .running then s.ret.routeNumber else 0
    let seconds (x : Nat) : Nat :=
      if route = 0 then x / 1000 else s.ret.routeClock - (s.ret.stationClock - x) / 1000
    let double := (s.ret.entries.find? fun e => e.meter == c.meter).any fun e => e.double
    let watched := (s.ret.entries.find? fun e => e.meter == c.meter).any fun e => e.watch
    t.main = { s.main with contacts := s.main.contacts.map fun x =>
        if x.meter = c.meter then
          { c with solo := c.solo || s.main.mute, noroom := false, settle := none,
                   state := .held s.ret.nextSeq }
        else x } ∧
    t.ret = { s.ret with
      nextSeq := s.ret.nextSeq + 1
      log := s.ret.log ++ [
        { seq := s.ret.nextSeq, route := route, openState := .opened, mark := .unsent
          alert := if qualifies c.findings s.main.cfg.threshold watched then .pending else .none
          body := .read
            { meter := c.meter, utility := c.utility, dials := c.dials, reading := c.reading,
              measures := c.measures, flags := c.flags, resets := c.resets, quality := c.bestQuality,
              firstHeard := seconds c.firstArrival, lastHeard := seconds c.lastArrival,
              arrivals := c.arrivals, findings := c.findings,
              marks := { stray := c.stray, reread := c.reread, solo := c.solo || s.main.mute,
                         double := double, interrupted := false } } }]
      entries :=
        if s.ret.routeState = .running then s.ret.entries.map fun e =>
          if e.meter = c.meter then
            { e with z := some c.reading, findings := e.findings ||| c.findings, state := .readHere }
          else e
        else s.ret.entries } ∧
    t.powered = s.powered ∧ t.backup = s.backup ∧ t.pins = s.pins ∧ t.pending = s.pending

/-! ## Findings and alerts -/

/-- The alert test: findings qualify when they are not empty and their highest severity is at least the threshold,
or at least 1 with the meter WATCHed, each finding with the severity of the table of R57 (R57, R62). A promotion
takes the PENDING record with the lowest sequence and the empty slot with the lowest number: the slot takes the
sequence, the record becomes SLOTTED, and its ALERT enters the queue with the findings, the highest severity and
WATCH of this moment (R64, R65). Without an empty slot, a PENDING record, room in the queue, or in MUTE, no
promotion takes place (R64, R71). -/
def Obligations.AlertsAreRaisedAndPromotedInOrder : Prop :=
  (∀ f : Finding, f.severity =
    match f with
    | .mag | .cover | .rollback | .split => 3
    | .reverse | .chatter | .excess | .restart | .dials => 2
    | .leak | .stall => 1
    | .lowbat => 0) ∧
  (∀ (fs : FindingSet) (h : Nat) (watched : Bool),
    qualifies fs h watched = true ↔
      ∃ f, hasFinding fs f = true ∧ (∀ g, hasFinding fs g = true → g.severity ≤ f.severity) ∧
        (h ≤ f.severity ∨ (watched = true ∧ 1 ≤ f.severity))) ∧
  (∀ (s : State) (i : Fin 4) (x : Record) (older newer : List Record) (f : ReadFields),
    s.powered = true → s.main.mute = false → s.main.queue.length < 16 →
    s.main.slots.get i = none → (∀ j, j < i → s.main.slots.get j ≠ none) →
    s.ret.log = older ++ x :: newer → x.alert = .pending → x.body = .read f →
    (∀ y ∈ older, y.alert ≠ .pending) →
    exec .promotion s = .next { s with
      journal := [s.ret]
      ret := s.ret.updRecord x.seq fun y => { y with alert := .slotted }
      main := { s.main with
        slots := s.main.slots.set i (some x.seq)
        queue := s.main.queue ++ [
          { mask := 0xFFFE#16
            body := .alert i x.seq f.meter f.findings
              ((s.ret.entries.find? fun e => e.meter == f.meter).any fun e => e.watch)
              ((highestSeverity f.findings).getD 0) }] } }) ∧
  (∀ s : State,
    ((∀ i, s.main.slots.get i ≠ none) ∨ (∀ x ∈ s.ret.log, x.alert ≠ .pending) ∨ s.main.mute = true ∨
      16 ≤ s.main.queue.length) →
    exec .promotion s = .next s.begin)

/-- An ALERT-ACK from a console that names an occupied slot and the sequence it holds empties the slot, withdraws a
waiting ALERT for it and makes the record ACKED; any other ALERT-ACK changes nothing beyond the hearing of its
sender (R63, R67, R83). -/
def Obligations.AlertAckMatchesSlotAndSequence : Prop :=
  ∀ (src : BitVec 4) (slot : Byte) (seq : BitVec 32) (s : State), s.TakesFrom src →
    let u := s.hearing src .console
    (∀ i : Fin 4, slot.toNat = i.val → s.main.slots.get i = some seq.toNat →
      exec (.alertAck src slot seq) s = .next { u with
        journal := [s.ret]
        ret := s.ret.updRecord seq.toNat fun y => { y with alert := .acked }
        main := { u.main with
          slots := s.main.slots.set i none
          queue := s.main.queue.filter fun p => !isAlertOf i p.body
          current := s.main.current.bind (Current.reach (isAlertOf i)) } }) ∧
    ((∀ i : Fin 4, slot.toNat = i.val → s.main.slots.get i ≠ some seq.toNat) →
      exec (.alertAck src slot seq) s = .next u)

/-! ## The Drive Link -/

/-- A post offered to the queue: it is refused when the queue is full and holds no post it replaces; otherwise the
post it replaces leaves, the new one enters at the tail, and a current post of that kind is dropped between attempts
or left to run out its attempt. Nothing else changes (R81, R82); that a refused post leaves a current post of its
kind as it is, between attempts too, is read from R81 and R105 (log entry 7). A new post replaces an old one exactly
when both are STATUS, or both are a CLAIM or YIELD for one meter (R82). -/
def Obligations.OfferedPostEntersReplacesOrIsRefused : Prop :=
  (∀ (s : State) (p : Post),
    ((∀ x ∈ s.main.queue, p.body.replaces x.body = false) → 16 ≤ s.main.queue.length →
      s.offer p = s) ∧
    ((∃ x ∈ s.main.queue, p.body.replaces x.body = true) ∨ s.main.queue.length < 16 →
      s.offer p = { s with main := { s.main with
        queue := s.main.queue.filter (fun x => !p.body.replaces x.body) ++ [p]
        current :=
          match s.main.current with
          | none => none
          | some c =>
            if p.body.replaces c.post.body = false then some c
            else if c.attempt = none then none
            else some { c with dropAtLoss := true } } })) ∧
  (∀ new old : PostBody, new.replaces old = true ↔
    (new = .status ∧ old = .status) ∨
      ∃ m, ((∃ q h, new = .claim m q h) ∨ new = .yield m) ∧ ((∃ q h, old = .claim m q h) ∨ old = .yield m))

/-- The head of the queue is the oldest post of the lowest-numbered class that holds any, and taking it leaves the
others in their order (R80). -/
def Obligations.QueueHeadIsOldestOfLowestClass : Prop :=
  ∀ q : List Post,
    (takeHead q = none ↔ q = []) ∧
    ∀ p rest, takeHead q = some (p, rest) →
      ∃ before after, q = before ++ p :: after ∧ rest = before ++ after ∧
        (∀ x ∈ before, p.body.cls < x.body.cls) ∧ ∀ x ∈ after, p.body.cls ≤ x.body.cls

/-- An attempt: a current post begins its next attempt once the line has been quiet for 40 µs, or after its k-th
loss for 40 + (n + 16 × ((k − 1) mod 4)) × 16 µs; with no current post the head of the queue becomes current and
begins at once after 40 µs. A STATUS takes its contents now, and CHECK and header are those of section 11.2 (R76,
R77, R80, R91, R169, R201); the line carries activity begun in the receiver's hearing, for a loss to go on with
(R85). No attempt begins while starting is not allowed: before the end of start-up, in SAG, in PARKED, before the
wake settle has run, and in MUTE; the queue and the current post stay (R79, R93). Whether an attempt begins or not,
a quiet gap ends the stretch under way, and one that was heard is discarded and counted under LINK-CHECK (R86; that
the command takes this up is the model's, log entry 16). During an attempt the command changes nothing. -/
def Obligations.AttemptBeginsAfterItsQuietTime : Prop :=
  let ended (quiet : Nat) (s : State) : State :=
    { s with
      journal := []
      pins := { s.pins with line := if 40 ≤ quiet then .quiet else s.pins.line }
      main := { s.main with linkCheck :=
        if 40 ≤ quiet ∧ s.pins.line = .heard then s.main.linkCheck + 1 else s.main.linkCheck } }
  (∀ s : State, s.mayStart = true ↔
    s.powered = true ∧ s.main.supply = .normal ∧ s.main.mute = false ∧
      (s.main.park = .run ∨ (s.main.park = .linkAwake ∧ s.main.wakeSettle = none))) ∧
  (∀ (quiet : Nat) (s : State), s.mayStart = true → s.inAttempt = false →
    let v := ended quiet s
    (∀ c, s.main.current = some c →
      let wait := if c.losses = 0 then 40
        else 40 + (s.main.strap + 16 * ((c.losses - 1) % 4)) * 16
      (wait ≤ quiet → exec (.attempt quiet) s = .next { v with
        pins := { s.pins with line := .heard }
        main := { v.main with
          current := some { c with attempt := some (postBytes s.main.strap s.statusFields c.post) }
          sagInAttempt := false } }) ∧
      (quiet < wait → exec (.attempt quiet) s = .next v)) ∧
    (s.main.current = none →
      (∀ p rest, 40 ≤ quiet → takeHead s.main.queue = some (p, rest) →
        exec (.attempt quiet) s = .next { v with
          pins := { s.pins with line := .heard }
          main := { v.main with
            queue := rest
            drain := if p.body.isDrain then { s.main.drain with post := .current } else s.main.drain
            sagInAttempt := false
            current := some
              { post := p, losses := 0, dropAtLoss := false
                attempt := some (postBytes s.main.strap s.statusFields p) } } }) ∧
      (quiet < 40 ∨ s.main.queue = [] → exec (.attempt quiet) s = .next v))) ∧
  (∀ (quiet : Nat) (s : State),
    s.powered = false ∨ s.main.supply = .sag ∨ s.main.park = .parked ∨
      (s.main.park = .linkAwake ∧ s.main.wakeSettle ≠ none) ∨ s.main.mute = true →
    s.inAttempt = false → exec (.attempt quiet) s = .next (ended quiet s)) ∧
  ∀ (quiet : Nat) (s : State), s.inAttempt = true → exec (.attempt quiet) s = .next s.begin

/-- An attempt that completes: the post leaves the transmitter and has ended on the line (R85). A STATUS clears
SAG-SEEN, save for a SAG entered after it took its contents, which the next STATUS carries (R183; log entry 13); a
RECORD raises POSITION and the engine offers its next post; a BATCH-END with records starts the commit wait, and one
with COUNT 0 ends the drain; of a post of a cleared batch the engine takes the end alone (R76, R91, R166, R170,
R171). -/
def Obligations.SentPostLeavesTransmitter : Prop :=
  ∀ (s : State) (c : Current), s.main.current = some c → c.attempt ≠ none →
    let u := ((s.begin).setCurrent none).setLine .quiet
    let d := s.main.drain
    (c.post.body.isDrain = false → c.post.body ≠ .status → exec .postSent s = .next u) ∧
    (c.post.body = .status →
      exec .postSent s = .next { u with main := { u.main with sagSeen := s.main.sagInAttempt } }) ∧
    (∀ r, c.post.body = .record r → c.dropAtLoss = false → exec .postSent s =
      .next ((u.setDrain { d with post := .none, position := d.position + 1 }).offerDrainPost)) ∧
    (∀ n e, c.post.body = .batchEnd n e → c.dropAtLoss = false →
      (n = 0 → exec .postSent s =
        .next (u.setDrain { d with post := .none, state := .idle, dock := none })) ∧
      (n ≠ 0 → exec .postSent s =
        .next (u.setDrain { d with
          post := .none, state := .awaitCommit,
          commitWait := some (s.main.cfg.commitWait * 1000) }))) ∧
    (c.post.body.isDrain = true → c.dropAtLoss = true →
      (d.state ≠ .sending → exec .postSent s = .next (u.setDrain { d with post := .none })) ∧
      (d.state = .sending → exec .postSent s =
        .next ((u.setDrain { d with post := .none }).offerDrainPost)))

/-- An attempt that is lost: before the sixteenth loss the post stays current with its loss count raised; at the
sixteenth it is discarded and LINK-DROP rises, a drain post abandoning its drain; a replaced or withdrawn post is
dropped without a count (R76, R77, R78, R82, R83, R177). The line stays as it is: the other station's post goes on
(R85). -/
def Obligations.LostAttemptKeepsDropsOrDiscardsPost : Prop :=
  ∀ (s : State) (c : Current), s.main.current = some c → c.attempt ≠ none →
    let u := (s.begin).setCurrent none
    let dropped : State := { u with main := { u.main with linkDrop := u.main.linkDrop + 1 } }
    (c.dropAtLoss = false →
      (c.losses < 15 → exec .attemptLost s =
        .next ((s.begin).setCurrent (some { c with losses := c.losses + 1, attempt := none }))) ∧
      (15 ≤ c.losses →
        (c.post.body.isDrain = false → exec .attemptLost s = .next dropped) ∧
        (c.post.body.isDrain = true → exec .attemptLost s =
          .next ((dropped.setDrain { s.main.drain with post := .none }).endDrain)))) ∧
    (c.dropAtLoss = true →
      (c.post.body.isDrain = false → exec .attemptLost s = .next u) ∧
      (c.post.body.isDrain = true → s.main.drain.state ≠ .sending → exec .attemptLost s =
        .next (u.setDrain { s.main.drain with post := .none })) ∧
      (c.post.body.isDrain = true → s.main.drain.state = .sending → exec .attemptLost s =
        .next ((u.setDrain { s.main.drain with post := .none }).offerDrainPost)))

/-- Every post the part composes is read back whole by a receiver: the same SOURCE, ROLE COLLECTOR, KIND, MASK and
BODY under a valid check word, for every body of at most 56 bytes (R74, R86, R201). The bodies of the nine kinds
have the lengths of section 11.2: STATUS 56, CLAIM 6, YIELD 4, ALERT 12, ROUTE-GAP 4 and two for each index,
CONFIG-REPORT 31, COUNT-REPORT one and four for each counter, RECORD 38 or 17, BATCH-END 9 (R201). Each field of a
body other than STATUS, a set of findings by the positions of section 11.3, stands at its position of section 11.4,
in its width, and the positions without a field are zero: the settings of a CONFIG-REPORT at those of section 11.5
(R198), the counters of a COUNT-REPORT in their order (R199), and every field of a RECORD, absent ones as zero and
times stopping at FFFFFFFFh (R164). The positions of a STATUS are the statement
StatusTimerOffersStatusAndRestarts's. -/
def Obligations.ComposedPostIsReadBackWhole : Prop :=
  (∀ (fs : FindingSet) (f : Finding), hasFinding fs f = fs.toNat.testBit
    (match f with
    | .mag => 0 | .cover => 1 | .reverse => 2 | .leak => 3 | .lowbat => 4 | .rollback => 5
    | .split => 6 | .chatter => 7 | .excess => 8 | .stall => 9 | .restart => 10 | .dials => 11)) ∧
  (∀ (strap : Nat) (st : StatusFields) (p : Post), strap < 16 → (bodyBytes st p.body).length ≤ 56 →
    parsePost (postBytes strap st p) =
      some { src := strap, role := some .collector, kind := some p.body.kind, mask := p.mask,
             body := bodyBytes st p.body }) ∧
  (∀ (s : State) (b : PostBody),
    (bodyBytes s.statusFields b).length =
      match b with
      | .status => 56
      | .claim .. => 6
      | .yield _ => 4
      | .alert .. => 12
      | .routeGap _ _ indices => 4 + 2 * indices.length
      | .configReport .. => 31
      | .countReport _ counters => 1 + 4 * counters.length
      | .record x =>
        match x.body with
        | .routeEnd _ => 17
        | _ => 38
      | .batchEnd .. => 9) ∧
  ∀ st : StatusFields,
    let byte (b : PostBody) (i : Nat) : Nat := (byteAt (bodyBytes st b) i).toNat
    let word (b : PostBody) (i n : Nat) : Nat := beNat (((bodyBytes st b).drop i).take n)
    (∀ (slot : Fin 4) (seq : Nat) (m : MeterId) (fs : FindingSet) (watch : Bool) (severity : Nat),
      let b : PostBody := .alert slot seq m fs watch severity
      seq < 2 ^ 32 → severity ≤ 3 →
      byte b 0 = slot.val ∧ word b 1 4 = seq ∧ word b 5 4 = m.toNat ∧ word b 9 2 = fs.toNat ∧
        byte b 11 = (if watch = true then 128 else 0) + severity) ∧
    (∀ (m : MeterId) (quality : Nat) (hold : Hold),
      let b : PostBody := .claim m quality hold
      quality ≤ 63 →
      word b 0 4 = m.toNat ∧ byte b 4 = quality ∧ byte b 5 = if hold = .held then 1 else 0) ∧
    (∀ m : MeterId, word (.yield m) 0 4 = m.toNat) ∧
    (∀ (route missing : Nat) (indices : List Nat),
      let b : PostBody := .routeGap route missing indices
      route < 2 ^ 16 → missing < 2 ^ 16 →
      word b 0 2 = route ∧ word b 2 2 = missing ∧
        ∀ i x, indices[i]? = some x → x < 2 ^ 16 → word b (4 + 2 * i) 2 = x) ∧
    (∀ (strap : Nat) (isDefault clamped : Bool) (c : Settings),
      let b : PostBody := .configReport strap isDefault clamped c
      strap < 16 → settingsInRange c →
      byte b 0 = strap * 16 + (if isDefault = true then 2 else 0) + (if clamped = true then 1 else 0) ∧
        byte b 1 = (if c.strayCapture = true then 128 else 0) + c.sector ∧
        byte b 2 = (if c.portA.enable = true then 128 else 0) +
          (if c.portA.keepNewest = true then 64 else 0) + c.portA.levelOffset ∧
        byte b 3 = (if c.portB.enable = true then 128 else 0) +
          (if c.portB.keepNewest = true then 64 else 0) + c.portB.levelOffset ∧
        word b 4 2 = c.acceptMask.toNat ∧ word b 6 4 = c.prefixMask.toNat ∧
        word b 10 4 = c.prefixValue.toNat ∧ byte b 14 = c.window ∧ byte b 15 = c.limit ∧
        byte b 16 = c.idleTimeout ∧ byte b 17 = c.holdOff ∧ byte b 18 = c.settle ∧
        byte b 19 = c.statusInterval ∧ byte b 20 = c.peerSilence ∧ byte b 21 = c.threshold ∧
        word b 22 2 = c.stallAge ∧ byte b 24 = c.commitWait ∧ byte b 25 = c.parkReturn ∧
        byte b 26 = c.supplyLevel ∧ word b 27 4 = 0) ∧
    (∀ (part : Part) (counters : List Counter),
      let b : PostBody := .countReport part counters
      byte b 0 = (match part with | .portA => 0 | .portB => 1 | .station => 2) ∧
        ∀ i c, counters[i]? = some c → word b (1 + 4 * i) 4 = c.toNat) ∧
    (∀ (n lowest highest : Nat), n ≤ 16 → lowest < 2 ^ 32 → highest < 2 ^ 32 →
      let b : PostBody := .batchEnd n (some (lowest, highest))
      byte b 0 = n ∧ word b 1 4 = lowest ∧ word b 5 4 = highest) ∧
    (∀ n : Nat, n ≤ 16 →
      byte (.batchEnd n none) 0 = n ∧ word (.batchEnd n none) 1 4 = 0 ∧ word (.batchEnd n none) 5 4 = 0) ∧
    ∀ x : Record, x.seq < 2 ^ 32 → x.route < 2 ^ 16 →
      let b : PostBody := .record x
      word b 0 4 = x.seq ∧ word b 5 2 = x.route ∧
      byte b 4 =
        (match x.body with | .read _ => 0 | .missed _ => 64 | .routeEnd _ => 128) +
          (if x.openState = .closed then 32 else 0) + (if x.mark = .sentInBatch then 16 else 0) +
          (match x.alert with | .none => 0 | .pending => 1 | .slotted => 2 | .acked => 3) ∧
      (∀ f : ReadFields, x.body = .read f → f.utility < 16 → f.dials < 16 → f.reading < 2 ^ 28 →
        f.resets < 16 → f.quality ≤ 63 → f.arrivals < 2 ^ 16 →
        word b 7 4 = f.meter.toNat ∧ byte b 11 = f.utility * 16 + f.dials ∧ word b 12 4 = f.reading ∧
          (f.measures = none → word b 16 6 = 0) ∧
          (∀ m, f.measures = some m → -(2 ^ 31 : Int) ≤ m.advance → m.advance < 2 ^ 31 →
            m.rate < 2 ^ 16 →
            (BitVec.ofNat 32 (word b 16 4)).toInt = m.advance ∧ word b 20 2 = m.rate) ∧
          byte b 22 = f.flags.toNat ∧ byte b 23 = f.resets ∧ byte b 24 = f.quality ∧
          word b 25 4 = min f.firstHeard 4294967295 ∧ word b 29 4 = min f.lastHeard 4294967295 ∧
          word b 33 2 = f.arrivals ∧ word b 35 2 = f.findings.toNat ∧
          byte b 37 = (if f.measures.isSome = true then 128 else 0) + 64 +
            (if f.marks.interrupted = true then 16 else 0) + (if f.marks.double = true then 8 else 0) +
            (if f.marks.solo = true then 4 else 0) + (if f.marks.reread = true then 2 else 0) +
            (if f.marks.stray = true then 1 else 0)) ∧
      (∀ f : MissedFields, x.body = .missed f → f.dials < 16 → f.prior < 2 ^ 28 →
        (∀ k, f.resets = some k → k < 16) →
        word b 7 4 = f.meter.toNat ∧ byte b 11 = f.dials ∧ word b 12 4 = f.prior ∧ word b 16 6 = 0 ∧
          byte b 22 = 0 ∧ byte b 23 = f.resets.getD 0 ∧ word b 24 13 = 0 ∧
          byte b 37 = if f.resets.isSome = true then 64 else 0) ∧
      ∀ f : RouteEndFields, x.body = .routeEnd f → f.readHere < 2 ^ 16 → f.readPeer < 2 ^ 16 →
        f.missedListed < 2 ^ 16 → f.missedUnlisted < 2 ^ 16 → f.withFindings < 2 ^ 16 →
        word b 7 2 = f.readHere ∧ word b 9 2 = f.readPeer ∧ word b 11 2 = f.missedListed ∧
          word b 13 2 = f.missedUnlisted ∧ word b 15 2 = f.withFindings

/-- A CLAIM or a YIELD that another collector composes has the same effect from its bytes on the line as the row's
command has (R87, R88, R110, R118, R201, R202; the rows as the reception of posts are log entry 5). -/
def Obligations.ClaimOnTheLineActsAsClaimCommand : Prop :=
  ∀ (n : BitVec 4) (st : StatusFields) (m : MeterId) (q : BitVec 6) (h : Hold) (s : State),
    exec (.postReceived (postBytes n.toNat st (claimPost m q.toNat h))) s = exec (.claim n m q h) s ∧
    exec (.postReceived (postBytes n.toNat st (yieldPost m))) s = exec (.yield n m) s

/-- A valid post of an addressed kind, addressed to this station by its own position of MASK or, without a station
number, by all fifteen, from a role that R88 lists and with a length the table allows, has from its bytes the effect
of the row's command with the fields at their positions of section 11.4 (R87, R88, R202; the rows as the reception
of posts are log entry 5). A ROUTE-ENTRY carries one entry for each seventeen bytes, in their order: INDEX,
METER-ID, DR and P, then WATCH, the two presence bits and A in three bytes, C, B, and KR and HINT in the last, each
absent when its presence bit is clear. The posts that R88 and R202 ignore are the statement
ReceiverJudgesStretchAndSender's. -/
def Obligations.AddressedPostActsAsItsCommand : Prop :=
  ∀ (bytes : List Byte) (h : Heard) (r : Role) (k : Kind) (s : State),
    parsePost bytes = some h → h.role = some r → h.kind = some k →
    (if s.main.strap = 0 then ∀ i, 1 ≤ i → i ≤ 15 → h.mask.getLsbD i = true
      else h.mask.getLsbD s.main.strap = true) →
    lengthAllowed k h.body.length = true →
    let src := BitVec.ofNat 4 h.src
    let does (c : Instr) : Prop := exec (.postReceived bytes) s = exec c s
    let byte (i : Nat) : Nat := (byteAt h.body i).toNat
    let word (i n : Nat) : Nat := beNat ((h.body.drop i).take n)
    (r = .console →
      (k = .alertAck → does (.alertAck src (byteAt h.body 0) (BitVec.ofNat 32 (word 1 4)))) ∧
      (k = .routeBegin →
        does (.routeBegin src (BitVec.ofNat 16 (word 0 2)) (BitVec.ofNat 16 (word 2 2)))) ∧
      (k = .routeEntry → ∀ es : List EntryFields, es.length = h.body.length / 17 →
        (∀ i e, es[i]? = some e →
          let at' := 17 * i
          let bits := word (at' + 10) 3
          e.index.toNat = word at' 2 ∧ e.meter.toNat = word (at' + 2) 4 ∧
            e.dr.toNat = byte (at' + 6) / 16 ∧ e.p.toNat = word (at' + 6) 4 % 2 ^ 28 ∧
            e.watch = decide (2 ^ 23 ≤ bits) ∧ e.a.toNat = bits % 2 ^ 20 ∧
            e.c.toNat = word (at' + 13) 2 ∧ e.b.toNat = byte (at' + 15) ∧
            e.kr.map BitVec.toNat =
              (if bits / 2 ^ 22 % 2 = 1 then some (byte (at' + 16) / 16) else none) ∧
            e.hint.map BitVec.toNat =
              (if bits / 2 ^ 21 % 2 = 1 then some (byte (at' + 16) % 4) else none)) →
        does (.routeEntry src es)) ∧
      (k = .routeGo → does (.routeGo src)) ∧ (k = .routeClose → does (.routeClose src)) ∧
      (k = .park → does (.park src)) ∧ (k = .run → does (.run src))) ∧
    (r = .dock →
      (k = .drainOpen → does (.drainOpen src)) ∧
      (k = .commit → does (.commit src (BitVec.ofNat 32 (word 0 4)))) ∧
      (k = .drainClose → does (.drainClose src))) ∧
    (r ≠ .collector →
      (k = .reset → does (.reset src r)) ∧ (k = .configQuery → does (.configQuery src r)) ∧
      (k = .countQuery → does (.countQuery src r (byteAt h.body 0))))

/-- A stretch forms no whole valid post exactly when its first byte is not SYNC, LENGTH is above 56, it ends before
CHECK, or CHECK differs from the check word over SOURCE through BODY; and then it is counted once under LINK-CHECK
and changes nothing else (R86). Otherwise its parts are read from the positions of section 11.2 (R201). A valid post
that names no sender, names no role, or bears this station's number: the first two change nothing, and the third
puts the station in MUTE and changes nothing else (R87, R92). A post is received when the receiver is receptive, its
station makes no attempt and the post did not begin before that (R85): the post that ends is then not a missed one
of EntryToRunAndWakeFromPark (log entry 16). Received or not, it has ended on the line, and begun on a quiet one it
wakes a station in PARKED (R187); during an attempt the line is the attempt's. A STATUS or an ALERT of another
station makes its peer entry PRESENT with the post's role and restarts its silence timer, and does nothing more
(R88, R96). So does every valid post of another station that R88 or R202 ignores: of no listed kind, from a role not
listed for its kind, not addressed where the kind requires it, or of a length the kind table does not allow. -/
def Obligations.ReceiverJudgesStretchAndSender : Prop :=
  (∀ bytes : List Byte,
    let byte (i : Nat) : Nat := (byteAt bytes i).toNat
    let length := byte 5 * 256 + byte 6
    (parsePost bytes = none ↔
      byte 0 ≠ 0x96 ∨ 56 < length ∨ bytes.length < 9 + length ∨
        checkWord ((bytes.drop 1).take (6 + length)) ≠ byte (7 + length) * 256 + byte (8 + length)) ∧
    ∀ h, parsePost bytes = some h →
      h.src = byte 1 / 16 ∧
      h.role =
        (if byte 1 % 16 = 1 then some .collector else if byte 1 % 16 = 2 then some .console
        else if byte 1 % 16 = 3 then some .dock else none) ∧
      (∀ k, h.kind = some k ↔ k.code = byteAt bytes 2) ∧
      h.mask.toNat = byte 3 * 256 + byte 4 ∧ h.body = (bytes.drop 7).take length) ∧
  (∀ s : State, s.receives = true ↔
    s.powered = true ∧ (s.main.park = .run ∨ (s.main.park = .linkAwake ∧ s.main.wakeSettle = none)) ∧
      (∀ c, s.main.current = some c → c.attempt = none) ∧ s.pins.line ≠ .missed) ∧
  (∀ (bytes : List Byte) (s : State),
    let ended : State := { s with journal := [], pins := { s.pins with line := .quiet } }
    (s.inAttempt = true → exec (.postReceived bytes) s = .next s.begin) ∧
    (s.inAttempt = false → s.receives = false →
      (s.powered = true → s.main.park = .parked → s.pins.line = .quiet → exec (.postReceived bytes) s =
        .next { ended with main := { s.main with park := .linkAwake, wakeSettle := some 2 } }) ∧
      (s.powered = false ∨ s.main.park ≠ .parked ∨ s.pins.line ≠ .quiet →
        exec (.postReceived bytes) s = .next ended)) ∧
    (s.receives = true →
      (parsePost bytes = none → exec (.postReceived bytes) s =
        .next { ended with main := { s.main with linkCheck := s.main.linkCheck + 1 } }) ∧
      ∀ h, parsePost bytes = some h →
        (h.role = none ∨ h.src = 0 → exec (.postReceived bytes) s = .next ended) ∧
        (h.role ≠ none → h.src ≠ 0 → h.src = s.main.strap →
          exec (.postReceived bytes) s = .next { ended with main := { s.main with mute := true } }))) ∧
  (∀ (bytes : List Byte) (h : Heard) (r : Role) (s : State), parsePost bytes = some h →
    s.receives = true → h.role = some r → h.src ≠ 0 → h.src ≠ s.main.strap →
    let listed (k : Kind) : Prop :=
      match k with
      | .status | .alert => True
      | .claim | .yield => r = .collector
      | .alertAck | .routeBegin | .routeEntry | .routeGo | .routeClose | .park | .run => r = .console
      | .reset | .configQuery | .countQuery => r = .console ∨ r = .dock
      | .drainOpen | .commit | .drainClose => r = .dock
      | .routeGap | .configReport | .countReport | .record | .batchEnd => False
    let anyMask (k : Kind) : Prop := k = .claim ∨ k = .yield ∨ k = .status ∨ k = .alert
    let addressed : Prop :=
      if s.main.strap = 0 then ∀ i, 1 ≤ i → i ≤ 15 → h.mask.getLsbD i = true
      else h.mask.getLsbD s.main.strap = true
    let lengths (k : Kind) : List Nat :=
      match k with
      | .claim => [6]
      | .yield => [4]
      | .alertAck => [5]
      | .routeBegin => [4]
      | .routeEntry => [17, 34, 51]
      | .countQuery => [1]
      | .commit => [4]
      | _ => [0]
    (h.kind = none ∨ ∃ k, h.kind = some k ∧
      (¬ listed k ∨ (¬ anyMask k ∧ ¬ addressed) ∨
        (k ≠ .status ∧ k ≠ .alert ∧ h.body.length ∉ lengths k))) →
    exec (.postReceived bytes) s = .next (s.heardFrom h.src r)) ∧
  (∀ (src : BitVec 4) (role : Role) (s : State), s.TakesFrom src →
    let t : State := { s with
      journal := []
      pins := { s.pins with line := .quiet }
      main := { s.main with peers := s.main.peers.map fun p =>
        if p.station = src.toNat then
          { p with presence := .present, role := some role,
                   silence := some (s.main.cfg.peerSilence * 1000) }
        else p } }
    exec (.status src role) s = .next t ∧ exec (.alert src role) s = .next t)

/-- The status timer's expiry, after the time it has left (log entry 2), offers a STATUS to all stations and
restarts the timer for the status interval, and so does the offer of a STATUS at each other cause of R90, which
RouteBeginIsAcceptedRefusedOrIgnored and the statements after it name (R90). What a STATUS carries of a state, which
an attempt takes at its start (AttemptBeginsAfterItsQuietTime): the route with its state and marks, CAUSE, SAG-SEEN,
the park state, NOROOM, the four entry counts, which sum to the entries stored, occupancy, the lowest sequence of
the log, the PENDING records and the meter and sequence of each slot (R73, R91, R135); and where each of these
stands in the body (section 11.4). -/
def Obligations.StatusTimerOffersStatusAndRestarts : Prop :=
  (∀ (s : State) (left : Nat), s.main.statusTimer = some left →
    let u := ((s.begin).passTime left).offer { mask := 0xFFFE#16, body := .status }
    exec .statusTimerExpiry s = .next { u with main := { u.main with
      statusTimer := some (s.main.cfg.statusInterval * 1000) } }) ∧
  (∀ s : State,
    let u := s.offer { mask := 0xFFFE#16, body := .status }
    s.offerStatus = { u with main := { u.main with
      statusTimer := some (s.main.cfg.statusInterval * 1000) } }) ∧
  (∀ s : State,
    let f := s.statusFields
    let entries (p : EntryState → Prop) [DecidablePred p] : Nat :=
      (s.ret.entries.filter fun e => decide (p e.state)).length
    f.route = s.ret.routeNumber ∧ f.routeState = s.ret.routeState ∧ f.cause = s.main.cause ∧
    f.trunc = s.ret.trunc ∧ f.sagSeen = s.main.sagSeen ∧
    (f.linkAwake = true ↔ s.main.park = .linkAwake) ∧
    (f.noroom = true ↔ ∃ c ∈ s.main.contacts, c.noroom = true) ∧
    f.routeRefused = s.main.routeRefused ∧
    f.due + f.readHere + f.readPeer + f.missed = s.ret.entries.length ∧
    f.readHere = entries (fun x => x = .readHere) ∧
    f.readPeer = (s.ret.entries.filter fun e => match e.state with | .readPeer _ _ => true | _ => false).length ∧
    f.missed = (s.ret.entries.filter fun e => match e.state with | .missed _ => true | _ => false).length ∧
    f.occupancy = s.ret.log.length ∧
    (f.oldest = none ↔ s.ret.log = []) ∧
    (s.ret.LogInOrder → ∀ q, f.oldest = some q →
      (∃ x ∈ s.ret.log, x.seq = q) ∧ ∀ x ∈ s.ret.log, q ≤ x.seq) ∧
    f.pending = (s.ret.log.filter fun x => decide (x.alert = .pending)).length ∧
    ∀ i : Fin 4,
      (s.main.slots.get i = none → f.slots[i.val]? = some none) ∧
      ∀ q x m, s.main.slots.get i = some q → s.ret.recordOf q = some x → x.meter = some m →
        f.slots[i.val]? = some (some (m, q))) ∧
  ∀ f : StatusFields,
    let body := bodyBytes f .status
    let word (i n : Nat) : Nat := beNat ((body.drop i).take n)
    f.route < 2 ^ 16 → f.due < 2 ^ 16 → f.readHere < 2 ^ 16 → f.readPeer < 2 ^ 16 → f.missed < 2 ^ 16 →
    f.occupancy < 2 ^ 16 → f.pending < 2 ^ 16 →
    word 0 2 = f.route ∧
    (byteAt body 2).toNat =
      (match f.routeState with
        | .noRoute => 0 | .loading => 16 | .running => 32 | .closing => 48 | .closed => 64) +
      (match f.cause with | .cold => 0 | .restored => 1 | .stationReset => 2) ∧
    (byteAt body 3).toNat =
      (if f.trunc = true then 128 else 0) + (if f.sagSeen = true then 64 else 0) +
        (if f.linkAwake = true then 32 else 0) + (if f.noroom = true then 16 else 0) ∧
    word 4 4 = f.routeRefused.toNat ∧ word 8 2 = f.due ∧ word 10 2 = f.readHere ∧
    word 12 2 = f.readPeer ∧ word 14 2 = f.missed ∧ word 16 2 = f.occupancy ∧
    (f.oldest = none → word 18 4 = 0) ∧ (∀ q, f.oldest = some q → q < 2 ^ 32 → word 18 4 = q) ∧
    word 22 2 = f.pending ∧
    ∀ i, (f.slots[i]? = some none → word (24 + 8 * i) 8 = 0) ∧
      ∀ m q, f.slots[i]? = some (some (m, q)) → q < 2 ^ 32 →
        word (24 + 8 * i) 4 = m.toNat ∧ word (28 + 8 * i) 4 = q

/-! ## Peers and claims -/

/-- Of two claims from different stations exactly one beats the other: HELD before CLAIMING, then the higher
quality, then the lower station number; equal claims do not beat each other (R98). What a route entry records of a
claim: `afterCession` follows a contact that cedes (R100), `noteClaiming` a CLAIMING claim that is recorded (R112,
R113, R117), `noteHeld` a HELD claim without a contact (R117); a claim of the station already named is not weighed
but replaces it, save a CLAIMING one a HELD one (R111). -/
def Obligations.ClaimsAreWeighedAndRecorded : Prop :=
  ((∀ x y : Claim, x.beats y = true ↔
    (x.hold = .held ∧ y.hold = .claiming) ∨
    (x.hold = y.hold ∧ y.quality < x.quality) ∨
    (x.hold = y.hold ∧ x.quality = y.quality ∧ x.station < y.station)) ∧
  (∀ x y : Claim, x.station ≠ y.station → (x.beats y = true ↔ y.beats x = false)) ∧
  (∀ x : Claim, x.beats x = false) ∧
  ∀ x y z : Claim, x.beats y = true → y.beats z = true → x.beats z = true) ∧
  (∀ (c : Claim) (n q : Nat),
    let own := c.station = n
    (c.hold = .held → ∀ e, EntryState.afterCession c e = .readPeer c.station c.quality) ∧
    (c.hold = .claiming →
      EntryState.afterCession c .due = .peerClaiming c.station c.quality ∧
      EntryState.afterCession c (.peerClaiming n q) = .peerClaiming c.station c.quality ∧
      EntryState.afterCession c (.readPeer n q) = .readPeer n q ∧
      EntryState.noteClaiming c .due = .peerClaiming c.station c.quality ∧
      (own ∨ c.beats { station := n, quality := q, hold := .claiming } = true →
        EntryState.noteClaiming c (.peerClaiming n q) = .peerClaiming c.station c.quality) ∧
      (¬ own → c.beats { station := n, quality := q, hold := .claiming } = false →
        EntryState.noteClaiming c (.peerClaiming n q) = .peerClaiming n q) ∧
      EntryState.noteClaiming c (.readPeer n q) = .readPeer n q) ∧
    (c.hold = .held →
      EntryState.noteHeld c .due = .readPeer c.station c.quality ∧
      EntryState.noteHeld c (.peerClaiming n q) = .readPeer c.station c.quality ∧
      (own → EntryState.noteHeld c (.readPeer n q) = .readPeer c.station c.quality) ∧
      (¬ own → EntryState.noteHeld c (.readPeer n q) = .readPeer n q)))

/-- A CLAIM at a LISTENING or CLAIMING contact, in RUNNING one whose entry is not READ-HERE: a HELD claim, or one
that beats this station's, makes it CEDED and stops its settle timer; a worse CLAIMING one is recorded by the entry,
and a CLAIMING contact counter-claims (R110, R112, R113). No other contact, entry or record changes. A CLAIM at a
CEDED contact: a claim of the named station replaces CEDED-TO, save a CLAIMING one a HELD one; a claim of another
station replaces it when it beats it; the entry follows, and no post answers (R111, R116). -/
def Obligations.ClaimMovesContactsThatDoNotHold : Prop :=
  (∀ (src : BitVec 4) (m : MeterId) (quality : BitVec 6) (hold : Hold) (s : State) (x : Contact),
    s.TakesFrom src → s.ret.routeState ≠ .closing → validMeter m = true → s.contactOf m = some x →
    (s.ret.routeState = .running → ∀ e ∈ s.ret.entries, e.meter = m → e.state ≠ .readHere) →
    let u := s.heardFrom src.toNat .collector
    let c : Claim := { station := src.toNat, quality := quality.toNat, hold := hold }
    let own : Claim := { station := s.ownNumber, quality := x.bestQuality, hold := .claiming }
    let ceded := (u.setContact { x with state := .ceded c, settle := none }).changeEntry m
      fun e => { e with state := EntryState.afterCession c e.state }
    let note (v : State) : State := v.changeEntry m
      fun e => { e with state := EntryState.noteClaiming c e.state }
    (x.state = .listening →
      (hold = .held ∨ c.beats own = true → exec (.claim src m quality hold) s = .next ceded) ∧
      (hold = .claiming → c.beats own = false →
        exec (.claim src m quality hold) s = .next (note u))) ∧
    (x.state = .claiming →
      (hold = .held ∨ c.beats own = true →
        (x.idlePending = false → exec (.claim src m quality hold) s = .next ceded) ∧
        (x.idlePending = true → exec (.claim src m quality hold) s = .next (ceded.dropContact m))) ∧
      (hold = .claiming → c.beats own = false →
        exec (.claim src m quality hold) s = .next (note (u.offer
          { mask := 0xFFFE#16, body := .claim m x.bestQuality .claiming }))))) ∧
  (∀ (src : BitVec 4) (m : MeterId) (quality : BitVec 6) (hold : Hold) (s : State) (x : Contact) (k : Claim),
    s.TakesFrom src → s.ret.routeState ≠ .closing → validMeter m = true → s.contactOf m = some x →
    x.state = .ceded k →
    let u := s.heardFrom src.toNat .collector
    let c : Claim := { station := src.toNat, quality := quality.toNat, hold := hold }
    let takes :=
      (k.station = src.toNat ∧ ¬ (hold = .claiming ∧ k.hold = .held)) ∨
        (k.station ≠ src.toNat ∧ c.beats k = true)
    (takes → exec (.claim src m quality hold) s =
      .next ((u.setContact { x with state := .ceded c }).changeEntry m
        fun e => { e with state := EntryState.afterCession c e.state })) ∧
    (¬ takes → exec (.claim src m quality hold) s = .next u))

/-- A CLAIM for a meter this station holds (a HELD contact, or the entry READ-HERE of a RUNNING route with no
contact or a LISTENING one): a CLAIMING claim draws a re-assertion and changes nothing else; a HELD claim draws no
post and sets DOUBLE on the newest READ record of the meter still in the log and on its entry (R110, R114, R115). A
CLAIM for a meter without a contact changes the entry of a RUNNING route alone, and without an entry, outside
RUNNING, while CLOSING, or for an invalid METER-ID it has no effect (R99, R110, R117, R202). -/
def Obligations.ClaimIsAnsweredByHolderOrEntry : Prop :=
  (∀ (src : BitVec 4) (m : MeterId) (quality : BitVec 6) (s : State) (best : Nat),
    s.TakesFrom src → s.ret.routeState ≠ .closing → validMeter m = true →
    ((∃ x q, s.contactOf m = some x ∧ x.state = .held q ∧ x.bestQuality = best) ∨
      (((s.contactOf m = none ∧ best = 0) ∨
          ∃ x, s.contactOf m = some x ∧ x.state = .listening ∧ x.bestQuality = best) ∧
        s.ret.routeState = .running ∧ ∃ e, s.ret.entryOf m = some e ∧ e.state = .readHere)) →
    let u := s.heardFrom src.toNat .collector
    exec (.claim src m quality .claiming) s =
      .next (u.offer { mask := 0xFFFE#16, body := .claim m best .held }) ∧
    ∃ t, exec (.claim src m quality .held) s = .next t ∧ t.main = u.main ∧
      t.ret.entries =
        (if s.ret.routeState = .running then
          s.ret.entries.map fun e => if e.meter = m then { e with double := true } else e
        else s.ret.entries) ∧
      t.ret.nextSeq = s.ret.nextSeq ∧ t.ret.routeState = s.ret.routeState ∧
      ((∀ y ∈ s.ret.log, y.isReadOf m = false) → t.ret.log = s.ret.log) ∧
      (∀ older y newer f, s.ret.LogInOrder → s.ret.log = older ++ y :: newer → y.body = .read f →
        f.meter = m → (∀ z ∈ newer, z.isReadOf m = false) →
        t.ret.log = older ++ { y with body := .read { f with
          marks := { f.marks with double := true } } } :: newer)) ∧
  (∀ (src : BitVec 4) (m : MeterId) (quality : BitVec 6) (hold : Hold) (s : State), s.TakesFrom src →
    let u := s.heardFrom src.toNat .collector
    let c : Claim := { station := src.toNat, quality := quality.toNat, hold := hold }
    (∀ e, s.ret.routeState = .running → validMeter m = true → s.contactOf m = none →
      s.ret.entryOf m = some e → e.state ≠ .readHere →
      exec (.claim src m quality hold) s = .next (u.write fun r => { r with
        entries := r.entries.map fun e => if e.meter = m then
          { e with state :=
              if hold = .held then EntryState.noteHeld c e.state
              else EntryState.noteClaiming c e.state }
          else e })) ∧
    ((s.contactOf m = none ∧ (s.ret.routeState ≠ .running ∨ s.ret.entryOf m = none)) ∨
      s.ret.routeState = .closing ∨ validMeter m = false →
      exec (.claim src m quality hold) s = .next u))

/-- A YIELD from a station releases a contact CEDED to its CLAIMING claim to LISTENING, and makes a PEER-CLAIMING
entry of that station DUE in RUNNING unless the meter's contact is HELD or ceded otherwise; everything else stays
(R118). While CLOSING (R99), or for an invalid METER-ID (R202), it has no effect. The silence timer's expiry, after
the time it has left (log entry 2), makes the peer SILENT with its role kept and its timer stopped, returns every
contact CEDED to its CLAIMING claims to LISTENING, and in RUNNING makes its PEER-CLAIMING entries DUE (R97, R119),
all of them in one write (log entry 3). -/
def Obligations.YieldAndSilenceReleaseClaims : Prop :=
  (∀ (src : BitVec 4) (m : MeterId) (s : State), s.TakesFrom src → validMeter m = true →
    let u := s.heardFrom src.toNat .collector
    let revert (v : State) : State := v.changeEntry m
      fun e => { e with state := EntryState.revert src.toNat e.state }
    (s.ret.routeState = .closing → exec (.yield src m) s = .next u) ∧
    (s.ret.routeState ≠ .closing →
      (∀ x q, s.contactOf m = some x →
        x.state = .ceded { station := src.toNat, quality := q, hold := .claiming } →
        exec (.yield src m) s = .next (revert (u.setContact { x with state := .listening }))) ∧
      (∀ x k, s.contactOf m = some x → x.state = .ceded k → k.station ≠ src.toNat ∨ k.hold = .held →
        exec (.yield src m) s = .next u) ∧
      (∀ x q, s.contactOf m = some x → x.state = .held q → exec (.yield src m) s = .next u) ∧
      ((s.contactOf m = none ∨ ∃ x, s.contactOf m = some x ∧
          (x.state = .listening ∨ x.state = .claiming)) →
        exec (.yield src m) s = .next (revert u)))) ∧
  (∀ (src : BitVec 4) (m : MeterId) (s : State), s.TakesFrom src → m = 0#32 ∨ m = 0xFFFFFFFF#32 →
    exec (.yield src m) s = .next (s.heardFrom src.toNat .collector)) ∧
  (∀ (n : BitVec 4) (s : State) (left : Nat) (before after : List Peer) (p : Peer),
    s.powered = true → s.main.peers = before ++ p :: after → p.station = n.toNat →
    (∀ x ∈ before, x.station ≠ n.toNat) → (∀ x ∈ after, x.station ≠ n.toNat) → p.silence = some left →
    let u := (s.begin).passTime left
    let main := { u.main with
      peers := before.map (Peer.passTime · left) ++
        { p with presence := .silent, silence := none } :: after.map (Peer.passTime · left)
      contacts := u.main.contacts.map fun c =>
        if c.cededToClaiming n.toNat = true then { c with state := .listening } else c }
    (s.ret.routeState ≠ .running → exec (.silence n) s = .next { u with main := main }) ∧
    (s.ret.routeState = .running → exec (.silence n) s = .next
      { u with
        main := main
        journal := [u.ret]
        ret := { u.ret with entries := u.ret.entries.map fun e =>
          match e.state with
          | .peerClaiming k _ => if k = n.toNat then { e with state := .due } else e
          | _ => e } }))

/-! ## The route table -/

/-- ROUTE-BEGIN with a route number and a count: accepted in NO-ROUTE and CLOSED with occupancy 4095 or below, and
in LOADING, it empties the table, takes the number and the clamped count, stops the route clock at 0, holds the
reservation and enters LOADING, with a STATUS where the state changed; otherwise it is refused and counted. One that
names no route changes nothing beyond the hearing of its sender (R126, R128, R136). -/
def Obligations.RouteBeginIsAcceptedRefusedOrIgnored : Prop :=
  ∀ (src : BitVec 4) (route count : BitVec 16) (s : State), s.TakesFrom src →
    let u := s.hearing src .console
    let begun := u.write fun r => { r with
      entries := [], routeNumber := route.toNat, clampedCount := min count.toNat 2048,
      trunc := decide (2048 < count.toNat), routeClock := 0, routePhase := 0, reserved := true,
      routeState := .loading }
    (route = 0#16 ∨ count = 0#16 → exec (.routeBegin src route count) s = .next u) ∧
    (route ≠ 0#16 → count ≠ 0#16 →
      (s.ret.routeState = .loading → exec (.routeBegin src route count) s = .next begun) ∧
      (s.ret.routeState = .noRoute ∨ s.ret.routeState = .closed →
        (s.ret.log.length ≤ 4095 →
          exec (.routeBegin src route count) s = .next begun.offerStatus) ∧
        (4096 ≤ s.ret.log.length → exec (.routeBegin src route count) s =
          .next { u with main := { u.main with routeRefused := u.main.routeRefused + 1 } })) ∧
      (s.ret.routeState = .running ∨ s.ret.routeState = .closing →
        exec (.routeBegin src route count) s =
          .next { u with main := { u.main with routeRefused := u.main.routeRefused + 1 } }))

/-- The entries of a ROUTE-ENTRY post are taken one after another: an entry that fails one of tests 1 to 5 changes
nothing, one that names a meter standing at another index raises ROUTE-DUP alone, and one that passes is stored at
its index, DUE and untouched in LOADING and met with its meter's contact in RUNNING; the others keep their places
(R129, R130, R131, R132). What an entry takes from the contact its meter already has, at a store in RUNNING and at
ROUTE-GO (R132). -/
def Obligations.RouteEntriesAreJudgedInOrder : Prop :=
  ((∀ (src : BitVec 4) (es : List EntryFields) (s : State), s.TakesFrom src →
    exec (.routeEntry src es) s = .next (es.foldl State.takeEntry (s.hearing src .console))) ∧
  ∀ (s : State) (f : EntryFields),
    let open' := s.ret.routeState = .loading ∨ s.ret.routeState = .running
    let fits := f.index.toNat < s.ret.clampedCount ∧ f.meter ≠ 0#32 ∧ f.meter ≠ 0xFFFFFFFF#32 ∧
      4 ≤ f.dr.toNat ∧ f.dr.toNat ≤ 8 ∧ f.p.toNat < 10 ^ f.dr.toNat ∧
      (s.ret.routeState = .running → ∀ e ∈ s.ret.entries, e.index ≠ f.index.toNat)
    let dup := ∃ e ∈ s.ret.entries, e.meter = f.meter ∧ e.index ≠ f.index.toNat
    (¬ (open' ∧ fits) → s.takeEntry f = s) ∧
    (open' → fits → dup →
      s.takeEntry f = { s with main := { s.main with routeDup := s.main.routeDup + 1 } }) ∧
    (open' → fits → ¬ dup →
      ∃ e, (s.takeEntry f).ret.entryAt f.index.toNat = some e ∧ e.meter = f.meter ∧
        e.index = f.index.toNat ∧ e.dr = f.dr.toNat ∧ e.p = f.p.toNat ∧ e.a = f.a.toNat ∧
        e.c = f.c.toNat ∧ e.b = f.b.toNat ∧ e.kr = f.kr.map BitVec.toNat ∧
        e.hint = f.hint.map BitVec.toNat ∧ e.watch = f.watch ∧
        (s.ret.routeState = .loading → e.Untouched) ∧
        (s.ret.routeState = .running → e = meetAmong s.ret s.main.contacts
          { index := f.index.toNat, meter := f.meter, dr := f.dr.toNat, p := f.p.toNat, a := f.a.toNat,
            c := f.c.toNat, b := f.b.toNat, kr := f.kr.map BitVec.toNat,
            hint := f.hint.map BitVec.toNat, watch := f.watch, state := .due, z := none, findings := 0,
            double := false }) ∧
        (∀ i, i ≠ f.index.toNat → (s.takeEntry f).ret.entryAt i = s.ret.entryAt i) ∧
        (s.takeEntry f).main = s.main ∧ (s.takeEntry f).ret.log = s.ret.log)) ∧
  (∀ (r : Retained) (cs : List Contact) (e : RouteEntry),
    ((∀ c ∈ cs, c.meter ≠ e.meter) → meetAmong r cs e = e) ∧
    ∀ c, cs.find? (fun x => x.meter == e.meter) = some c →
      (c.state = .listening ∨ c.state = .claiming → meetAmong r cs e = e) ∧
      (∀ k, c.state = .ceded k → meetAmong r cs e = { e with
        state := if k.hold = .held then .readPeer k.station k.quality
          else .peerClaiming k.station k.quality }) ∧
      ∀ q x f, c.state = .held q → r.recordOf q = some x → x.body = .read f →
        meetAmong r cs e = { e with state := .readHere, z := some f.reading, findings := f.findings })

/-- ROUTE-GO in LOADING: the route is RUNNING with the route clock at 0 and every entry met with its meter's
contact, a ROUTE-GAP with up to twenty missing indices goes to the sender when one is missing, and a STATUS is
offered. In any other route state it is ignored (R126, R132, R133, R134). That the STATUS is offered after the
ROUTE-GAP is log entry 8, that the start is one write log entry 3, and the phase of the route clock log entry 2. -/
def Obligations.RouteGoStartsLoadedRoute : Prop :=
  ∀ (src : BitVec 4) (s : State), s.TakesFrom src →
    let u := s.hearing src .console
    let missing := (List.range s.ret.clampedCount).filter fun i =>
      s.ret.entries.all fun e => e.index != i
    let started := u.write fun r => { r with
      routeState := .running, routeClock := 0, routePhase := 0,
      entries := r.entries.map (meetAmong r u.main.contacts) }
    (s.ret.routeState ≠ .loading → exec (.routeGo src) s = .next u) ∧
    (s.ret.routeState = .loading →
      (missing = [] → exec (.routeGo src) s = .next started.offerStatus) ∧
      (missing ≠ [] → exec (.routeGo src) s = .next (started.offer
        { mask := 1#16 <<< src.toNat
          body := .routeGap s.ret.routeNumber missing.length (missing.take 20) }).offerStatus))

/-- ROUTE-CLOSE in RUNNING: CLOSING with the tallies 0, every contact removed with the records of HELD contacts
closed, the walk at index 0, and a STATUS offered; the CLAIMING CLAIMs of CLAIMING contacts are withdrawn from the
queue and the transmitter, and every other post stays; in any other route state it is ignored (R39, R83, R126,
R137). That the STATUS is offered after the withdrawals is log entry 8. -/
def Obligations.RouteCloseClearsContactsAndStartsWalk : Prop :=
  ∀ (src : BitVec 4) (s : State), s.TakesFrom src →
    let u := s.hearing src .console
    let w := u.withdraw u.ownsClaim
    let closed : State := { w with main := { w.main with contacts := [], walk := 0 } }
    (∀ b, u.ownsClaim b = true ↔
      ∃ c ∈ s.main.contacts, c.state = .claiming ∧ ∃ q, b = .claim c.meter q .claiming) ∧
    (s.ret.routeState ≠ .running → exec (.routeClose src) s = .next u) ∧
    (s.ret.routeState = .running → ∃ t, exec (.routeClose src) s = .next t ∧
      t.ret = { s.ret with
        routeState := .closing, listed := 0, unlisted := 0
        log := s.ret.log.map fun x =>
          if ∃ c ∈ s.main.contacts, c.state = .held x.seq then { x with openState := .closed } else x } ∧
      t.main = closed.offerStatus.main ∧
      (∀ c ∈ s.main.contacts, c.state = .claiming → ∀ q,
        ∀ p ∈ t.main.queue, p.body ≠ .claim c.meter q .claiming) ∧
      (∀ p ∈ s.main.queue, p.body ≠ .status → s.ownsClaim p.body = false → p ∈ t.main.queue) ∧
      t.powered = s.powered ∧ t.backup = s.backup ∧ t.pins = u.pins ∧ t.pending = s.pending)

/-- This station is responsible for a hinted entry when the hint is its sector, and for an unhinted one when its
number is lower than that of every PRESENT collector (R139). One step of the close walk: an empty index and an entry
that is READ-HERE, READ-PEER or MISSED are passed over; a DUE or PEER-CLAIMING entry becomes MISSED, with a MISSED
record and LISTED when this station is responsible and the log has room, with UNLISTED when there is none, and
without either when it is another station's (R138, R140, R141). -/
def Obligations.WalkStepMissesOneEntry : Prop :=
  (∀ (s : State) (e : RouteEntry),
    (∀ h, e.hint = some h → (s.responsible e = true ↔ h = s.main.cfg.sector)) ∧
    (e.hint = none → (s.responsible e = true ↔
      ∀ p ∈ s.main.peers, p.presence = .present → p.role = some .collector →
        (if s.main.strap = 0 then 16 else s.main.strap) < p.station))) ∧
  (∀ (s : State) (e : RouteEntry), s.powered = true → s.ret.routeState = .closing →
    s.main.walk + 1 < s.ret.clampedCount →
    let onward (r : Retained) (j : List Retained) : State :=
      { s with ret := r, journal := j, main := { s.main with walk := s.main.walk + 1 } }
    let missed (r : Retained) : Retained := { r with
      entries := r.entries.map fun x =>
        if x.index = s.main.walk then { x with state := .missed x.state.claimant } else x }
    (s.ret.entryAt s.main.walk = none → exec .walkStep s = .next (onward s.ret [])) ∧
    (s.ret.entryAt s.main.walk = some e →
      (e.state = .readHere ∨ e.isReadPeer = true ∨ e.isMissed = true →
        exec .walkStep s = .next (onward s.ret [])) ∧
      (e.state = .due ∨ (∃ n q, e.state = .peerClaiming n q) →
        (s.responsible e = false →
          exec .walkStep s = .next (onward (missed s.ret) [s.ret])) ∧
        (s.responsible e = true →
          (s.ret.room = true → exec .walkStep s = .next (onward (missed { s.ret with
            listed := s.ret.listed + 1, nextSeq := s.ret.nextSeq + 1
            log := s.ret.log ++ [
              { seq := s.ret.nextSeq, route := s.ret.routeNumber, openState := .closed,
                mark := .unsent, alert := .none,
                body := .missed { meter := e.meter, dials := e.dr, prior := e.p, resets := e.kr } }] })
            [s.ret])) ∧
          (s.ret.room = false → exec .walkStep s =
            .next (onward (missed { s.ret with unlisted := s.ret.unlisted + 1 }) [s.ret]))))))

/-- The step for the last index ends the walk: ROUTE-END is appended in the reserved slot when a sequence number is
left, with the five counts of this moment, the reservation ends, the route state becomes CLOSED, and a STATUS is
offered (R138, R142, R155). -/
def Obligations.LastWalkStepEndsRoute : Prop :=
  ∀ s : State, s.powered = true → s.ret.routeState = .closing → s.ret.clampedCount ≤ s.main.walk + 1 →
    let v := (s.begin).visitIndex s.main.walk
    let count (f : RouteEntry → Bool) : Nat := (v.ret.entries.filter f).length
    (4294967296 ≤ v.ret.nextSeq → exec .walkStep s =
      .next (v.write fun r => { r with reserved := false, routeState := .closed }).offerStatus) ∧
    (v.ret.nextSeq ≤ 4294967295 → exec .walkStep s = .next (v.write fun r => { r with
      reserved := false, routeState := .closed, nextSeq := r.nextSeq + 1
      log := r.log ++ [
        { seq := r.nextSeq, route := r.routeNumber, openState := .closed, mark := .unsent,
          alert := .none,
          body := .routeEnd
            { readHere := count fun e => e.state == .readHere
              readPeer := count RouteEntry.isReadPeer
              missedListed := r.listed
              missedUnlisted := r.unlisted
              withFindings := count fun e => e.findings != 0 } }] }).offerStatus)

/-! ## Depot upload -/

/-- A batch is formed of the first sixteen CLOSED and UNSENT records in ascending sequence: each is marked
SENT-IN-BATCH, the engine is SENDING at position 0, and the batch's first post, the RECORD of its first member or a
BATCH-END with COUNT 0, enters the tail of class 3 addressed to DOCK, is held WAITING for want of a place, or is not
offered while a post of an earlier batch is CURRENT; every other record and the rest of the part stay (R168, R169).
DRAIN-OPEN from a dock: in IDLE, DOCK is the sender and a batch is formed; in SENDING and AWAIT-COMMIT the current
batch is cleared first, its records UNSENT, its post withdrawn and its commit wait stopped (R83, R166, R167). -/
def Obligations.DrainOpenFormsBatchOfOldestClosed : Prop :=
  let forms (u t : State) : Prop :=
    let chosen := ((u.ret.log.filter fun x => x.openState == .closed && x.mark == .unsent).take 16)
    let marked (x : Record) : Record := { x with mark := .sentInBatch }
    let body : PostBody :=
      match chosen with
      | [] => .batchEnd 0 none
      | x :: _ => .record (marked x)
    let d : Drain :=
      { u.main.drain with state := .sending, batch := chosen.map Record.seq, position := 0 }
    t.ret = { u.ret with log := u.ret.log.map fun x => if x ∈ chosen then marked x else x } ∧
    (u.main.drain.post = .current → t.main = { u.main with drain := d }) ∧
    (u.main.drain.post ≠ .current →
      (u.main.queue.length < 16 → t.main = { u.main with
        queue := u.main.queue ++ [{ mask := 1#16 <<< (u.main.drain.dock.getD 0), body := body }]
        drain := { d with post := .queued } }) ∧
      (16 ≤ u.main.queue.length → t.main = { u.main with drain := { d with post := .waiting } })) ∧
    t.powered = u.powered ∧ t.backup = u.backup ∧ t.pins = u.pins ∧ t.pending = u.pending
  (∀ u : State, u.ret.LogInOrder → forms u u.formBatch) ∧
  ∀ (src : BitVec 4) (s : State), s.TakesFrom src → s.ret.LogInOrder →
    let v := s.hearing src .dock
    (s.main.drain.state = .idle → ∃ t, exec (.drainOpen src) s = .next t ∧
      forms { v with main := { v.main with
        drain := { v.main.drain with dock := some src.toNat } } } t) ∧
    (s.main.drain.state ≠ .idle → ∃ t, exec (.drainOpen src) s = .next t ∧
      forms { v with
        ret := { s.ret with log := s.ret.log.map fun x =>
          if x.seq ∈ s.main.drain.batch then { x with mark := .unsent } else x }
        main := { v.main.withoutDrainPost with
          drain := { state := s.main.drain.state, dock := some src.toNat, batch := [], position := 0,
                     post := .none, commitWait := none } } } t)

/-- COMMIT of v from DOCK in AWAIT-COMMIT: one write releases the members of the batch at or below v and returns the
others to UNSENT, released SLOTTED and PENDING records leave the alert unit counted, a released SLOTTED record
empties its slot and a waiting ALERT for that slot is withdrawn while every other post stays, and the next batch is
formed as DrainOpenFormsBatchOfOldestClosed says; a COMMIT in another drain state or from another station changes
nothing beyond the hearing of its sender (R68, R83, R173, R174). That the next batch is offered here, before a
promotion, is log entry 12. -/
def Obligations.CommitReleasesBatchMembers : Prop :=
  ∀ (src : BitVec 4) (v : BitVec 32) (s : State), s.TakesFrom src →
    let u := s.hearing src .dock
    let d := s.main.drain
    let freed := s.ret.log.filter fun x => d.batch.contains x.seq && decide (x.seq ≤ v.toNat)
    (d.state ≠ .awaitCommit ∨ d.dock ≠ some src.toNat → exec (.commit src v) s = .next u) ∧
    (d.state = .awaitCommit → d.dock = some src.toNat → ∃ w : State, exec (.commit src v) s =
        .next ((w.setDrain { w.main.drain with commitWait := none, batch := [], position := 0 }).formBatch) ∧
      w.journal = [s.ret] ∧
      w.ret = { s.ret with log :=
        (s.ret.log.filter fun x => !(d.batch.contains x.seq && decide (x.seq ≤ v.toNat))).map fun x =>
          if d.batch.contains x.seq then { x with mark := .unsent } else x } ∧
      w.main.alertsReleased = s.main.alertsReleased + BitVec.ofNat 32
        ((freed.filter fun x => x.alert == .slotted || x.alert == .pending).length) ∧
      w.main.drain = d ∧ w.main.contacts = s.main.contacts ∧ w.main.peers = u.main.peers ∧
      (s.main.slots.held.Nodup →
        let emptied (i : Fin 4) : Bool :=
          (s.main.slots.get i).any fun q => freed.any fun x => x.seq == q && x.alert == .slotted
        let alerts (b : PostBody) : Bool := slotNumbers.any fun i => emptied i && isAlertOf i b
        (∀ i, w.main.slots.get i = if emptied i = true then none else s.main.slots.get i) ∧
        w.main = { u.main with
          slots := w.main.slots, alertsReleased := w.main.alertsReleased
          queue := s.main.queue.filter fun p => !alerts p.body
          current := s.main.current.bind (Current.reach alerts) }) ∧
      w.powered = s.powered ∧ w.backup = s.backup ∧ w.pins = u.pins ∧ w.pending = s.pending)

/-- A drain ended early, by DRAIN-CLOSE from DOCK or by the commit wait after the time its timer has left (log entry
2): every record of the batch is UNSENT again and none is released, the engine's post is dealt with by where it
stands, and the engine is IDLE without a dock (R83, R166): a WAITING post is dropped, a QUEUED one withdrawn, a
CURRENT one dropped between attempts and left to its attempt otherwise. From another station, in IDLE, or with the
timer stopped, nothing happens (R172, R176). -/
def Obligations.EarlyEndReturnsBatchUnsent : Prop :=
  ∀ (src : BitVec 4) (s : State),
    let ended (u t : State) : Prop :=
      t.ret = { u.ret with log := u.ret.log.map fun x =>
        if x.seq ∈ s.main.drain.batch then { x with mark := .unsent } else x } ∧
      t.main = u.main.drainEnded ∧
      t.powered = u.powered ∧ t.backup = u.backup ∧ t.pins = u.pins ∧ t.pending = u.pending
    (s.TakesFrom src →
      (s.main.drain.state ≠ .idle → s.main.drain.dock = some src.toNat →
        ∃ t, exec (.drainClose src) s = .next t ∧ ended (s.hearing src .dock) t) ∧
      (s.main.drain.state = .idle ∨ s.main.drain.dock ≠ some src.toNat →
        exec (.drainClose src) s = .next (s.hearing src .dock))) ∧
    (∀ left, s.main.drain.state = .awaitCommit → s.main.drain.commitWait = some left →
      ∃ t, exec .commitWaitExpiry s = .next t ∧ ended ((s.begin).passTime left) t) ∧
    (s.main.drain.commitWait = none → exec .commitWaitExpiry s = .next s.begin)

/-- A drain post held WAITING enters the tail of class 3 when the queue has a place, with the record as it stands at
that moment, and waits on while the queue is full (R81, R169). A BATCH-END carries the number of records in BATCH,
and the lowest and the highest sequence of a batch that is not empty (R169); BATCH is ascending (R165). -/
def Obligations.WaitingDrainPostIsOfferedAgain : Prop :=
  ∀ (s : State) (x : Record) (n : Nat), s.main.drain.post = .waiting → s.main.drain.dock = some n →
    let queued (b : PostBody) : Host.Outcome State Fault Refusal := .next { s with
      journal := []
      main := { s.main with
        queue := s.main.queue ++ [{ mask := 1#16 <<< n, body := b }]
        drain := { s.main.drain with post := .queued } } }
    (s.main.queue.length < 16 →
      (∀ q, s.main.drain.batch[s.main.drain.position]? = some q → s.ret.recordOf q = some x →
        exec .drainPostOffer s = queued (.record x)) ∧
      (s.main.drain.batch[s.main.drain.position]? = none →
        (s.main.drain.batch = [] → exec .drainPostOffer s = queued (.batchEnd 0 none)) ∧
        ∀ lowest highest, s.main.drain.batch.Pairwise (· < ·) →
          lowest ∈ s.main.drain.batch → highest ∈ s.main.drain.batch →
          (∀ q ∈ s.main.drain.batch, lowest ≤ q ∧ q ≤ highest) → exec .drainPostOffer s =
            queued (.batchEnd s.main.drain.batch.length (some (lowest, highest))))) ∧
    (16 ≤ s.main.queue.length → exec .drainPostOffer s = .next s.begin)

/-! ## Supply, park and start-up -/

/-- The supply state follows SENSE with a hysteresis of 0.4 V about 8.0 V + 0.5 V × L: ENTER_SAG below the threshold
in NORMAL enters SAG and sets SAG-SEEN, RETURN_TO_NORMAL at the threshold + 0.4 V or above in SAG enters NORMAL, and
in between the state stays (R182, R183). -/
def Obligations.SupplyStateFollowsSense : Prop :=
  ∀ (mv : Nat) (s : State), s.powered = true →
    let threshold := 8000 + 500 * s.main.cfg.supplyLevel
    let seen : State := { s with journal := [], pins := { s.pins with senseMv := mv } }
    (s.main.supply = .normal → mv < threshold → exec (.enterSag mv) s =
      .next { seen with main := { s.main with supply := .sag, sagSeen := true, sagInAttempt := true } }) ∧
    (s.main.supply = .sag ∨ threshold ≤ mv → exec (.enterSag mv) s = .next seen) ∧
    (s.main.supply = .sag → threshold + 400 ≤ mv → exec (.returnToNormal mv) s =
      .next { seen with main := { s.main with supply := .normal } }) ∧
    (s.main.supply = .normal ∨ mv < threshold + 400 → exec (.returnToNormal mv) s = .next seen)

/-- Entry to PARKED, by a falling edge of IGN or a PARK post in RUN, by a PARK post in LINK-AWAKE and by the
park-return expiry after the time its timer has left (log entry 2): every contact leaves, the records they hold are
closed and the CLAIMING CLAIMs of CLAIMING contacts withdrawn, both ports' slots are emptied and their frames in
progress discarded with the counters kept, a drain ends with its batch UNSENT and its post dealt with (R166), a post
being received is lost (step 5), and the timers of the park state stop; every other post of the queue and the
current post are kept, and so are peers, alert slots, counters, the supply state and MUTE (R6, R39, R83, R178, R185,
R186, R188). -/
def Obligations.EntryToParkedClearsContactsPortsAndDrain : Prop :=
  let parked (u t : State) : Prop :=
    t.main = { (u.withdraw u.ownsClaim).main.drainEnded with
      contacts := [], park := .parked, wakeSettle := none, parkReturn := none
      portA := { u.main.portA with slots := [], receiving := none }
      portB := { u.main.portB with slots := [], receiving := none } } ∧
    t.ret = { u.ret with log := u.ret.log.map fun x =>
      { x with
        openState := if ∃ c ∈ u.main.contacts, c.state = .held x.seq then .closed else x.openState
        mark := if u.main.drain.state ≠ .idle ∧ x.seq ∈ u.main.drain.batch then .unsent else x.mark } } ∧
    t.main.drain.state = .idle ∧
    (∀ c ∈ u.main.contacts, c.state = .claiming → ∀ q,
      ∀ p ∈ t.main.queue, p.body ≠ .claim c.meter q .claiming) ∧
    t.powered = u.powered ∧ t.backup = u.backup ∧ t.pending = u.pending ∧
    t.pins = { u.pins with line := if u.pins.line = .heard then .missed else u.pins.line }
  (∀ (s : State) (b : PostBody), s.ownsClaim b = true ↔
    ∃ c ∈ s.main.contacts, c.state = .claiming ∧ ∃ q, b = .claim c.meter q .claiming) ∧
  (∀ s : State, s.powered = true → s.main.park = .run →
    ∃ t, exec .ignFallingEdge s = .next t ∧
      parked { s with pins := { s.pins with ign := false } } t) ∧
  (∀ (src : BitVec 4) (s : State), s.TakesFrom src →
    ∃ t, exec (.park src) s = .next t ∧ parked (s.hearing src .console) t) ∧
  (∀ (s : State) (left : Nat), s.main.parkReturn = some left →
    ∃ t, exec .parkReturnExpiry s = .next t ∧ parked ((s.begin).passTime left) t) ∧
  ∀ s : State, s.main.park ≠ .run → exec .ignFallingEdge s =
    .next { s with journal := [], pins := { s.pins with ign := false } }

/-- Entry to RUN, by a rising edge of IGN in PARKED or LINK-AWAKE and by a RUN post in LINK-AWAKE: the timers of the
park state stop and a STATUS is offered; a RUN post or a rising edge in RUN has no effect (R185, R189). In PARKED,
line activity after a quiet gap moves the station to LINK-AWAKE for a settle of 2 ms; the settle's end, after the
time it has left (log entry 2), offers a STATUS and starts the park-return timer. Other line activity does not wake
(R185, R187). In every park state the start of line activity says how the receiver stands to the post that begins:
after a quiet gap it hears it when it is receptive and misses it when it is not, and activity without a quiet gap
goes on with what is under way, or is missed after a post; during an attempt of this station it is the attempt's
(R85). A quiet gap has ended the stretch before it, and one that was heard is discarded and counted (R86). That WAKE
gives this start and ends what was under way, and the three values of the line, are the model's (log entry 16). An
addressed post restarts the park-return timer in LINK-AWAKE, beyond the hearing of its sender, and nothing elsewhere
(R188). -/
def Obligations.EntryToRunAndWakeFromPark : Prop :=
  (let entered (u : State) : State := State.offerStatus
    { u with main := { u.main with park := .run, wakeSettle := none, parkReturn := none } }
  (∀ s : State,
    let u : State := { s with journal := [], pins := { s.pins with ign := true } }
    (s.powered = true → s.main.park ≠ .run → exec .ignRisingEdge s = .next (entered u)) ∧
    (s.main.park = .run → exec .ignRisingEdge s = .next u)) ∧
  ∀ (src : BitVec 4) (s : State), s.TakesFrom src →
    (s.main.park = .linkAwake → exec (.run src) s = .next (entered (s.hearing src .console))) ∧
    (s.main.park = .run → exec (.run src) s = .next (s.hearing src .console))) ∧
  (∀ (src : BitVec 4) (role : Role) (s : State),
    let h := s.heardFrom src.toNat role
    (s.main.park = .linkAwake → s.hearing src role =
      { h with main := { h.main with parkReturn := some (s.main.cfg.parkReturn * 1000) } }) ∧
    (s.main.park ≠ .linkAwake → s.hearing src role = h)) ∧
  (∀ (quiet : Nat) (s : State),
    let listens := s.powered = true ∧
      (s.main.park = .run ∨ (s.main.park = .linkAwake ∧ s.main.wakeSettle = none))
    let u : State := { s with
      journal := []
      pins := { s.pins with line :=
        if s.inAttempt = true then s.pins.line
        else if 40 ≤ quiet then (if listens then .heard else .missed)
        else if s.pins.line = .heard then .heard
        else .missed }
      main := { s.main with linkCheck :=
        if s.inAttempt = false ∧ 40 ≤ quiet ∧ s.pins.line = .heard then s.main.linkCheck + 1
        else s.main.linkCheck } }
    (s.powered = true → s.main.park = .parked → 40 ≤ quiet → exec (.wake quiet) s = .next
      { u with main := { u.main with park := .linkAwake, wakeSettle := some 2 } }) ∧
    (s.powered = false ∨ s.main.park ≠ .parked ∨ quiet < 40 → exec (.wake quiet) s = .next u) ∧
    ∀ left, s.main.wakeSettle = some left →
      let u := (s.begin).passTime left
      exec .wakeSettleExpiry s = .next (State.offerStatus { u with main := { u.main with
        wakeSettle := none, parkReturn := some (s.main.cfg.parkReturn * 1000) } }))

/-- A failure of VMAIN takes the main domain and, while VBAK holds it, leaves the retained domain as the last
completed write of the step before left it: with `cut` writes not completed, as it stood before the first of them
(log entry 3). When VMAIN and VBAK have both failed, in either order, the retained contents and the retention-valid
flag are lost; a failure of VBAK beside VMAIN takes nothing by itself, and one that ends before VMAIN fails leaves
all as it was (R159, R184). What the lost domains read as, and that the command ends a failure of VBAK that is under
way, are the model's (log entry 4). A post being received is not received (R85). -/
def Obligations.SupplyLossKeepsLastCompletedWrite : Prop :=
  (∀ (s : State) (cut : Nat), s.powered = true →
    let lost (r : Retained) : Host.Outcome State Fault Refusal :=
      .next { s with
        powered := false, ret := r, main := lostMain, journal := []
        pins := { s.pins with line := if s.pins.line = .heard then .missed else s.pins.line } }
    (s.backup = true → exec (.mainSupplyLoss 0) s = lost s.ret) ∧
    (∀ later r earlier, s.backup = true → s.journal = later ++ r :: earlier →
      exec (.mainSupplyLoss (later.length + 1)) s = lost r) ∧
    (s.backup = false → ∃ r : Retained, exec (.mainSupplyLoss cut) s = lost r ∧
      r.retentionValid = false ∧ r.log = [] ∧ r.entries = [])) ∧
  (∀ s : State, s.backup = true → s.powered = false → ∃ t, exec .backupSupplyLoss s = .next t ∧
    t.ret.retentionValid = false ∧ t.ret.log = [] ∧ t.ret.entries = [] ∧ t.backup = false ∧
    t.main = s.main ∧ t.powered = false ∧ t.pins = s.pins ∧ t.pending = s.pending) ∧
  (∀ s : State, s.backup = true → s.powered = true →
    exec .backupSupplyLoss s = .next { s with journal := [], backup := false }) ∧
  (∀ s : State, s.backup = false →
    exec .backupSupplyLoss s = .next { s with journal := [], backup := true }) ∧
  ∀ (s : State) (cut : Nat), s.powered = false → exec (.mainSupplyLoss cut) s = .next s.begin

/-- Start-up decides its cause from the retention-valid flag: COLD clears the retained domain in one write that sets
the flag: an empty log with next sequence 1 and no reservation, NO-ROUTE with an empty table and its values 0, and
both clocks 0 (R195; the phase of the route clock is log entry 2); RESTORED keeps it, with every record closed
(INTERRUPTED where it was OPEN), UNSENT and not SLOTTED. The main domain starts afresh: configuration from the
block, RUN or PARKED from IGN, NORMAL or SAG from SENSE, MUTE for strap value 0, empty blocks, every counter 0, the
peers ABSENT with their silence timers started but this station's, no frame in progress and no post of the
receiver's, and one STATUS offered (R6, R63, R85, R95, R162, R165, R182, R191 to R196). -/
def Obligations.StartUpIsColdOrRestored : Prop :=
  ∀ (straps : BitVec 4) (block : List Byte) (ign : Bool) (mv : Nat) (s : State),
    let cfg := readConfig block
    let sag := mv < 8000 + 500 * cfg.settings.supplyLevel + 400
    let port : PortState :=
      { slots := [], receiving := none
        counters := { malformedLength := 0, checkFailed := 0, malformed := 0, filtered := 0,
                      sagDropped := 0, closingDropped := 0, strayDropped := 0, refusedFull := 0,
                      duplicate := 0, accepted := 0, overrun := 0 } }
    ∃ t, exec (.startUp straps block ign mv) s = .next t ∧
      t.powered = true ∧ t.backup = s.backup ∧ t.pins = { s.pins with
        ign := ign, senseMv := mv
        line := if s.pins.line = .heard then .missed else s.pins.line } ∧
      t.pending = s.pending ∧
      (s.ret.retentionValid = false → t.journal = [s.ret] ∧ t.ret =
        { stationClock := 0, routeClock := 0, routePhase := 0, routeState := .noRoute, routeNumber := 0,
          clampedCount := 0, trunc := false, listed := 0, unlisted := 0, entries := [], log := [],
          nextSeq := 1, reserved := false, retentionValid := true }) ∧
      (s.ret.retentionValid = true → s.ret.LogInOrder →
        t.ret = { s.ret with log := s.ret.log.map fun x =>
          { x with
            openState := .closed, mark := .unsent
            alert := if x.alert = .slotted then .pending else x.alert
            body := match x.body with
              | .read f => .read { f with marks := { f.marks with
                  interrupted := f.marks.interrupted || x.openState == .opened } }
              | b => b } }) ∧
      t.main =
        { strap := straps.toNat, cfg := cfg.settings, cfgDefault := cfg.isDefault,
          cfgClamped := cfg.clamped, portA := port, portB := port, contacts := [],
          slots := { s0 := none, s1 := none, s2 := none, s3 := none }, alertsReleased := 0,
          queue := [{ mask := 0xFFFE#16, body := .status }], current := none, linkCheck := 0,
          linkDrop := 0, statusTimer := some (cfg.settings.statusInterval * 1000),
          mute := decide (straps.toNat = 0),
          peers := (List.range 15).map fun i =>
            { station := i + 1, presence := .absent, role := none
              silence := if i + 1 = straps.toNat then none
                else some (cfg.settings.peerSilence * 1000) }
          routeDup := 0, routeRefused := 0, walk := 0
          drain := { state := .idle, dock := none, batch := [], position := 0, post := .none,
                     commitWait := none }
          supply := if sag then .sag else .normal, sagSeen := decide sag, sagInAttempt := false,
          park := if ign then .run else .parked, wakeSettle := none, parkReturn := none,
          cause := if s.ret.retentionValid then .restored else .cold }

/-- Every effective setting lies in its range, peer silence is at least twice the status interval, and a block whose
check word is wrong, such as a missing memory's or an all-zero one, gives every default of the table of R194 with
CFG-DEFAULT set and CFG-CLAMPED clear. From a block whose check word is right each setting is read from its position
of section 11.5 and taken as it stands where it is in its range, at the nearest end where it is not; PREFIX-VALUE
keeps the bits within PREFIX-MASK, and peer silence is then raised to twice the status interval where it is below
that; CFG-DEFAULT is clear, and CFG-CLAMPED is set exactly when some setting changed by it (R12, R193, R194, R203). -/
def Obligations.EffectiveSettingsAreInRange : Prop :=
  (∀ bs : List Byte, settingsInRange (readConfig bs).settings) ∧
  (∀ bs : List Byte, bs.length = 32 → checkWord (bs.take 30) ≠ beNat (bs.drop 30) →
    let port : PortSettings := { enable := true, keepNewest := true, levelOffset := 0 }
    readConfig bs =
      { isDefault := true, clamped := false
        settings :=
          { strayCapture := false, sector := 0, portA := port, portB := port, acceptMask := 0xFFFF#16
            prefixMask := 0#32, prefixValue := 0#32, window := 10, limit := 5, idleTimeout := 15
            holdOff := 8, settle := 15, statusInterval := 4, peerSilence := 12, threshold := 2
            stallAge := 0, commitWait := 3, parkReturn := 30, supplyLevel := 3 } }) ∧
  (∀ bs : List Byte, bs.length = 32 → checkWord (bs.take 30) = beNat (bs.drop 30) →
    let v (i : Nat) : Nat := (byteAt bs i).toNat
    let near (lo hi x : Nat) : Nat := if x < lo then lo else if hi < x then hi else x
    let port (x : Nat) : PortSettings :=
      { enable := decide (128 ≤ x), keepNewest := decide (64 ≤ x % 128), levelOffset := near 0 15 (x % 32) }
    let mask := BitVec.ofNat 32 (beNat ((bs.drop 5).take 4))
    let value := BitVec.ofNat 32 (beNat ((bs.drop 9).take 4))
    let c := readConfig bs
    c.isDefault = false ∧
    c.settings =
      { strayCapture := decide (128 ≤ v 0), sector := v 0 % 4, portA := port (v 1), portB := port (v 2),
        acceptMask := BitVec.ofNat 16 (beNat ((bs.drop 3).take 2)), prefixMask := mask,
        prefixValue := value &&& mask, window := near 1 60 (v 13), limit := near 2 8 (v 14),
        idleTimeout := near 2 60 (v 15), holdOff := near 0 50 (v 16), settle := near 2 50 (v 17),
        statusInterval := near 1 20 (v 18),
        peerSilence := max (near 2 60 (v 19)) (2 * near 1 20 (v 18)), threshold := near 1 3 (v 20),
        stallAge := beNat ((bs.drop 21).take 2), commitWait := near 1 10 (v 23),
        parkReturn := near 5 120 (v 24), supplyLevel := near 0 7 (v 25) } ∧
    (c.clamped = true ↔
      15 < v 1 % 32 ∨ 15 < v 2 % 32 ∨ value &&& mask ≠ value ∨ c.settings.window ≠ v 13 ∨
        c.settings.limit ≠ v 14 ∨ c.settings.idleTimeout ≠ v 15 ∨ c.settings.holdOff ≠ v 16 ∨
        c.settings.settle ≠ v 17 ∨ c.settings.statusInterval ≠ v 18 ∨ c.settings.peerSilence ≠ v 19 ∨
        c.settings.threshold ≠ v 20 ∨ c.settings.commitWait ≠ v 23 ∨ c.settings.parkReturn ≠ v 24 ∨
        c.settings.supplyLevel ≠ v 25)) ∧
  (readConfig (List.replicate 32 0xFF#8)).isDefault = true ∧
  (readConfig (List.replicate 32 0x00#8)).isDefault = true

/-- A RESET from a console or a dock: contacts leave with their records closed without INTERRUPTED, SLOTTED records
become PENDING, batch marks are cleared, and the blocks and counters of the main domain start afresh in MUTE only
without a station number, the frames in progress discarded; configuration, straps, supply, park state, pins, route
and clocks are kept; a CLOSING walk restarts at index 0 and a STATUS is offered (R39, R69, R80, R95, R143, R178,
R197). -/
def Obligations.StationResetClearsAndKeeps : Prop :=
  ∀ (src : BitVec 4) (role : Role) (s : State), s.TakesFrom src → role ≠ .collector →
    let u := s.hearing src role
    ∃ t, exec (.reset src role) s = .next t ∧
      t.ret = { s.ret with log := s.ret.log.map fun x =>
        { x with
          openState := if ∃ c ∈ s.main.contacts, c.state = .held x.seq then .closed else x.openState
          mark := if x.seq ∈ s.main.drain.batch then .unsent else x.mark
          alert := if ∃ y ∈ s.ret.log, y.seq = x.seq ∧ y.alert = .slotted then .pending else x.alert } } ∧
      t.main = { u.main with
        portA := freshPort, portB := freshPort, contacts := [], slots := emptySlots,
        alertsReleased := 0, queue := [{ mask := 0xFFFE#16, body := .status }], current := none,
        linkCheck := 0, linkDrop := 0, routeDup := 0, routeRefused := 0, walk := 0,
        drain := idleDrain, mute := decide (s.main.strap = 0), cause := .stationReset,
        peers := freshPeers s.main.strap (s.main.cfg.peerSilence * 1000),
        statusTimer := some (s.main.cfg.statusInterval * 1000) } ∧
      t.powered = s.powered ∧ t.backup = s.backup ∧ t.pins = u.pins ∧ t.pending = s.pending

/-- A CONFIG-QUERY or COUNT-QUERY from a console or a dock is answered by one report offered to the sender with the
settings or the counters of this moment, and changes nothing else; a PART above 2 draws no report; from a collector
a query is ignored (R88, R198, R199, R202). -/
def Obligations.QueriesAreAnsweredToTheirSender : Prop :=
  ∀ (src : BitVec 4) (role : Role) (part : Byte) (s : State), s.TakesFrom src →
    let u := s.hearing src role
    let reply (b : PostBody) : Host.Outcome State Fault Refusal :=
      .next (u.offer { mask := 1#16 <<< src.toNat, body := b })
    let port (c : PortCounters) : List Counter :=
      [c.malformedLength, c.checkFailed, c.malformed, c.filtered, c.sagDropped, c.closingDropped,
        c.strayDropped, c.refusedFull, c.duplicate, c.accepted, c.overrun]
    (role ≠ .collector →
      exec (.configQuery src role) s =
        reply (.configReport s.main.strap s.main.cfgDefault s.main.cfgClamped s.main.cfg) ∧
      (part = 0#8 → exec (.countQuery src role part) s =
        reply (.countReport .portA (port s.main.portA.counters))) ∧
      (part = 1#8 → exec (.countQuery src role part) s =
        reply (.countReport .portB (port s.main.portB.counters))) ∧
      (part = 2#8 → exec (.countQuery src role part) s = reply (.countReport .station
        [s.main.linkCheck, s.main.linkDrop, s.main.routeDup, s.main.routeRefused,
          s.main.alertsReleased])) ∧
      (2 < part.toNat → exec (.countQuery src role part) s = .next u)) ∧
    (role = .collector →
      exec (.configQuery src role) s = .next (s.heardFrom src.toNat role) ∧
      exec (.countQuery src role part) s = .next (s.heardFrom src.toNat role) ∧
      exec (.reset src role) s = .next (s.heardFrom src.toNat role))

/-! ## What every step keeps -/

/-- Right after reset, the end of the start of log entry 1, every bound and binding below holds. -/
def Obligations.ResetMeetsEveryBound : Prop :=
  State.reset.Sound ∧ State.reset.EveryRetained Retained.RouteSound ∧
    State.reset.EveryRetained Retained.ClocksInWidth ∧
    State.reset.EveryRetained Retained.ReadingsInRange ∧ (∀ c ∈ State.reset.main.contacts, c.InRange) ∧
    State.reset.PeersSound

/-- Every step keeps the log in order of sequence below the counter, and the reservation and the occupancy within
R153, through any loss of the main supply in the middle of a step (R150, R151, R153, R159). -/
def Obligations.LogOrderAndRoomAreKept : Prop :=
  ∀ s t : State, s.EveryRetained Retained.LogSound → step s = .next t → t.EveryRetained Retained.LogSound

/-- Every step keeps the route table within R123: at most 2048 entries, one to an index and one to a meter, in
range, untouched while LOADING and without a MISSED entry while RUNNING, and the two clocks within their widths
(R127, R184). -/
def Obligations.RouteTableIsKeptSound : Prop :=
  ∀ s t : State, s.EveryRetained (fun r => r.RouteSound ∧ r.ClocksInWidth) → step s = .next t →
    t.EveryRetained fun r => r.RouteSound ∧ r.ClocksInWidth

/-- Every stored rate lies in 0–65535, every stored advance in −10^(D−1) to 9×10^(D−1) − 1, and every stored reading
below 10^D, for the contact's and the record's own dial count D: every step keeps it (R55, R147). -/
def Obligations.StoredReadingsAreKeptInRange : Prop :=
  ∀ s t : State, s.EveryRetained Retained.ReadingsInRange → (∀ c ∈ s.main.contacts, c.InRange) →
    step s = .next t →
    t.EveryRetained Retained.ReadingsInRange ∧ ∀ c ∈ t.main.contacts, c.InRange

/-- Every step keeps at most 192 contacts, never two for one meter, each with at most eight ring entries, its counts
in range, and its settle and hold-off timers running exactly in CLAIMING and before eligibility (R20, R21, R27). -/
def Obligations.ContactTableIsKeptSound : Prop :=
  ∀ s t : State, s.main.ContactsSound → step s = .next t → t.main.ContactsSound

/-- Every step keeps the transmit queue within R80: at most sixteen posts, never two STATUS, never two CLAIM or
YIELD posts for one meter, at most one drain post, with DRAIN-POST saying where that one stands. -/
def Obligations.TransmitQueueIsKeptSound : Prop :=
  ∀ s t : State, s.main.LinkSound → s.main.drain.Sound → step s = .next t →
    t.main.LinkSound ∧ t.main.drain.Sound

/-- Every step keeps the peer table at fifteen entries with this station's own ABSENT, and a station without a
number in MUTE (R92, R95). -/
def Obligations.PeerTableIsKeptSound : Prop :=
  ∀ s t : State, s.PeersSound → step s = .next t → t.PeersSound

/-- Every HELD contact owns exactly one OPEN record, and every OPEN record is owned by a HELD contact, after every
step from a sound state (R36). -/
def Obligations.HeldContactsOwnOpenRecords : Prop :=
  ∀ s t : State, s.Sound → step s = .next t → t.HeldOwnOpen

/-- The occupied alert slots name distinct SLOTTED records of the log and no other record is SLOTTED, after every
step from a sound state (R63). -/
def Obligations.AlertSlotsNameSlottedRecords : Prop :=
  ∀ s t : State, s.Sound → step s = .next t → t.SlotsNameSlotted

/-- A record is SENT-IN-BATCH exactly when its sequence is in BATCH, and it is CLOSED then, after every step from a
sound state (R165, R168, R173). -/
def Obligations.SentInBatchMeansInBatch : Prop :=
  ∀ s t : State, s.Sound → step s = .next t → t.BatchMarksAgree
end

