-- ==== Sys2Proof/Laws/State.lean ====
section
/-! SUPPORT. What the updates of the state leave alone: one lemma per field per update. -/

namespace Sys2Proof.Machine

/-! ## The start of a step and the writes -/

section

variable (s : State)

@[simp] theorem State.begin_pending : s.begin.pending = s.pending := rfl
@[simp] theorem State.begin_powered : s.begin.powered = s.powered := rfl
@[simp] theorem State.begin_backup : s.begin.backup = s.backup := rfl
@[simp] theorem State.begin_pins : s.begin.pins = s.pins := rfl
@[simp] theorem State.begin_ret : s.begin.ret = s.ret := rfl
@[simp] theorem State.begin_main : s.begin.main = s.main := rfl
@[simp] theorem State.begin_journal : s.begin.journal = [] := rfl

@[simp] theorem State.write_pending (f : Retained → Retained) : (s.write f).pending = s.pending := rfl
@[simp] theorem State.write_powered (f : Retained → Retained) : (s.write f).powered = s.powered := rfl
@[simp] theorem State.write_backup (f : Retained → Retained) : (s.write f).backup = s.backup := rfl
@[simp] theorem State.write_pins (f : Retained → Retained) : (s.write f).pins = s.pins := rfl
@[simp] theorem State.write_ret (f : Retained → Retained) : (s.write f).ret = f s.ret := rfl
@[simp] theorem State.write_main (f : Retained → Retained) : (s.write f).main = s.main := rfl
@[simp] theorem State.write_journal (f : Retained → Retained) :
    (s.write f).journal = s.ret :: s.journal := rfl

@[simp] theorem State.setIgn_powered (b : Bool) : (s.setIgn b).powered = s.powered := rfl
@[simp] theorem State.setIgn_backup (b : Bool) : (s.setIgn b).backup = s.backup := rfl
@[simp] theorem State.setIgn_ret (b : Bool) : (s.setIgn b).ret = s.ret := rfl
@[simp] theorem State.setIgn_main (b : Bool) : (s.setIgn b).main = s.main := rfl
@[simp] theorem State.setIgn_journal (b : Bool) : (s.setIgn b).journal = s.journal := rfl
@[simp] theorem State.setSense_powered (v : Nat) : (s.setSense v).powered = s.powered := rfl
@[simp] theorem State.setSense_backup (v : Nat) : (s.setSense v).backup = s.backup := rfl
@[simp] theorem State.setSense_ret (v : Nat) : (s.setSense v).ret = s.ret := rfl
@[simp] theorem State.setSense_main (v : Nat) : (s.setSense v).main = s.main := rfl
@[simp] theorem State.setSense_journal (v : Nat) : (s.setSense v).journal = s.journal := rfl

@[simp] theorem State.setLine_pending (l : LinkLine) : (s.setLine l).pending = s.pending := rfl
@[simp] theorem State.setLine_powered (l : LinkLine) : (s.setLine l).powered = s.powered := rfl
@[simp] theorem State.setLine_backup (l : LinkLine) : (s.setLine l).backup = s.backup := rfl
@[simp] theorem State.setLine_pins (l : LinkLine) : (s.setLine l).pins = { s.pins with line := l } := rfl
@[simp] theorem State.setLine_ret (l : LinkLine) : (s.setLine l).ret = s.ret := rfl
@[simp] theorem State.setLine_main (l : LinkLine) : (s.setLine l).main = s.main := rfl
@[simp] theorem State.setLine_journal (l : LinkLine) : (s.setLine l).journal = s.journal := rfl

@[simp] theorem State.stopHearing_pending : s.stopHearing.pending = s.pending := rfl
@[simp] theorem State.stopHearing_powered : s.stopHearing.powered = s.powered := rfl
@[simp] theorem State.stopHearing_backup : s.stopHearing.backup = s.backup := rfl
@[simp] theorem State.stopHearing_pins :
    s.stopHearing.pins = { s.pins with line := s.pins.line.cut } := rfl
@[simp] theorem State.stopHearing_ret : s.stopHearing.ret = s.ret := rfl
@[simp] theorem State.stopHearing_main : s.stopHearing.main = s.main := rfl
@[simp] theorem State.stopHearing_journal : s.stopHearing.journal = s.journal := rfl

@[simp] theorem State.passTime_pending (n : Nat) : (s.passTime n).pending = s.pending := rfl
@[simp] theorem State.passTime_powered (n : Nat) : (s.passTime n).powered = s.powered := rfl
@[simp] theorem State.passTime_backup (n : Nat) : (s.passTime n).backup = s.backup := rfl
@[simp] theorem State.passTime_pins (n : Nat) : (s.passTime n).pins = s.pins := rfl
@[simp] theorem State.passTime_journal (n : Nat) : (s.passTime n).journal = s.journal := rfl
theorem State.passTime_ret (n : Nat) :
    (s.passTime n).ret = if s.ret.retentionValid then s.ret.passTime n else s.ret := rfl
theorem State.passTime_main (n : Nat) :
    (s.passTime n).main = if s.powered then s.main.passTime n else s.main := rfl

/-! ## The updates of the main domain -/

@[simp] theorem State.setContact_pending (c : Contact) : (s.setContact c).pending = s.pending := rfl
@[simp] theorem State.setContact_powered (c : Contact) : (s.setContact c).powered = s.powered := rfl
@[simp] theorem State.setContact_backup (c : Contact) : (s.setContact c).backup = s.backup := rfl
@[simp] theorem State.setContact_pins (c : Contact) : (s.setContact c).pins = s.pins := rfl
@[simp] theorem State.setContact_ret (c : Contact) : (s.setContact c).ret = s.ret := rfl
@[simp] theorem State.setContact_journal (c : Contact) : (s.setContact c).journal = s.journal := rfl
@[simp] theorem State.setContact_main (c : Contact) :
    (s.setContact c).main = { s.main with contacts := s.main.contacts.map fun x => if x.meter = c.meter then c else x } := rfl

@[simp] theorem State.dropContact_pending (m : MeterId) : (s.dropContact m).pending = s.pending := rfl
@[simp] theorem State.dropContact_powered (m : MeterId) : (s.dropContact m).powered = s.powered := rfl
@[simp] theorem State.dropContact_backup (m : MeterId) : (s.dropContact m).backup = s.backup := rfl
@[simp] theorem State.dropContact_pins (m : MeterId) : (s.dropContact m).pins = s.pins := rfl
@[simp] theorem State.dropContact_ret (m : MeterId) : (s.dropContact m).ret = s.ret := rfl
@[simp] theorem State.dropContact_journal (m : MeterId) : (s.dropContact m).journal = s.journal := rfl
@[simp] theorem State.dropContact_main (m : MeterId) :
    (s.dropContact m).main = { s.main with contacts := s.main.contacts.filter fun c => c.meter != m } := rfl

@[simp] theorem State.addContact_pending (c : Contact) : (s.addContact c).pending = s.pending := rfl
@[simp] theorem State.addContact_powered (c : Contact) : (s.addContact c).powered = s.powered := rfl
@[simp] theorem State.addContact_backup (c : Contact) : (s.addContact c).backup = s.backup := rfl
@[simp] theorem State.addContact_pins (c : Contact) : (s.addContact c).pins = s.pins := rfl
@[simp] theorem State.addContact_ret (c : Contact) : (s.addContact c).ret = s.ret := rfl
@[simp] theorem State.addContact_journal (c : Contact) : (s.addContact c).journal = s.journal := rfl
@[simp] theorem State.addContact_main (c : Contact) :
    (s.addContact c).main = { s.main with contacts := insertBy (fun x => x.meter.toNat) c s.main.contacts } := rfl

@[simp] theorem State.setDrain_pending (d : Drain) : (s.setDrain d).pending = s.pending := rfl
@[simp] theorem State.setDrain_powered (d : Drain) : (s.setDrain d).powered = s.powered := rfl
@[simp] theorem State.setDrain_backup (d : Drain) : (s.setDrain d).backup = s.backup := rfl
@[simp] theorem State.setDrain_pins (d : Drain) : (s.setDrain d).pins = s.pins := rfl
@[simp] theorem State.setDrain_ret (d : Drain) : (s.setDrain d).ret = s.ret := rfl
@[simp] theorem State.setDrain_journal (d : Drain) : (s.setDrain d).journal = s.journal := rfl
@[simp] theorem State.setDrain_main (d : Drain) :
    (s.setDrain d).main = { s.main with drain := d } := rfl

@[simp] theorem State.setCurrent_pending (c : Option Current) : (s.setCurrent c).pending = s.pending := rfl
@[simp] theorem State.setCurrent_powered (c : Option Current) : (s.setCurrent c).powered = s.powered := rfl
@[simp] theorem State.setCurrent_backup (c : Option Current) : (s.setCurrent c).backup = s.backup := rfl
@[simp] theorem State.setCurrent_pins (c : Option Current) : (s.setCurrent c).pins = s.pins := rfl
@[simp] theorem State.setCurrent_ret (c : Option Current) : (s.setCurrent c).ret = s.ret := rfl
@[simp] theorem State.setCurrent_journal (c : Option Current) : (s.setCurrent c).journal = s.journal := rfl
@[simp] theorem State.setCurrent_main (c : Option Current) :
    (s.setCurrent c).main = { s.main with current := c } := rfl

@[simp] theorem State.reachCurrent_pending (hit : PostBody → Bool) :
    (s.reachCurrent hit).pending = s.pending := rfl
@[simp] theorem State.reachCurrent_powered (hit : PostBody → Bool) :
    (s.reachCurrent hit).powered = s.powered := rfl
@[simp] theorem State.reachCurrent_backup (hit : PostBody → Bool) :
    (s.reachCurrent hit).backup = s.backup := rfl
@[simp] theorem State.reachCurrent_pins (hit : PostBody → Bool) : (s.reachCurrent hit).pins = s.pins := rfl
@[simp] theorem State.reachCurrent_ret (hit : PostBody → Bool) : (s.reachCurrent hit).ret = s.ret := rfl
@[simp] theorem State.reachCurrent_journal (hit : PostBody → Bool) :
    (s.reachCurrent hit).journal = s.journal := rfl
@[simp] theorem State.reachCurrent_main (hit : PostBody → Bool) :
    (s.reachCurrent hit).main = { s.main with current := s.main.current.bind (Current.reach hit) } := rfl

@[simp] theorem State.enqueue_pending (p : Post) : (s.enqueue p).pending = s.pending := rfl
@[simp] theorem State.enqueue_powered (p : Post) : (s.enqueue p).powered = s.powered := rfl
@[simp] theorem State.enqueue_backup (p : Post) : (s.enqueue p).backup = s.backup := rfl
@[simp] theorem State.enqueue_pins (p : Post) : (s.enqueue p).pins = s.pins := rfl
@[simp] theorem State.enqueue_ret (p : Post) : (s.enqueue p).ret = s.ret := rfl
@[simp] theorem State.enqueue_journal (p : Post) : (s.enqueue p).journal = s.journal := rfl
@[simp] theorem State.enqueue_main (p : Post) :
    (s.enqueue p).main = { s.main with queue := s.main.queue.filter (fun x => !p.body.replaces x.body) ++ [p] } := rfl

@[simp] theorem State.withdraw_pending (hit : PostBody → Bool) : (s.withdraw hit).pending = s.pending := rfl
@[simp] theorem State.withdraw_powered (hit : PostBody → Bool) : (s.withdraw hit).powered = s.powered := rfl
@[simp] theorem State.withdraw_backup (hit : PostBody → Bool) : (s.withdraw hit).backup = s.backup := rfl
@[simp] theorem State.withdraw_pins (hit : PostBody → Bool) : (s.withdraw hit).pins = s.pins := rfl
@[simp] theorem State.withdraw_ret (hit : PostBody → Bool) : (s.withdraw hit).ret = s.ret := rfl
@[simp] theorem State.withdraw_journal (hit : PostBody → Bool) : (s.withdraw hit).journal = s.journal := rfl
@[simp] theorem State.withdraw_main (hit : PostBody → Bool) :
    (s.withdraw hit).main = { s.main with queue := s.main.queue.filter (fun p => !hit p.body), current := s.main.current.bind (Current.reach hit) } := rfl

@[simp] theorem State.takeCurrent_pending (p : Post) (rest : List Post) :
    (s.takeCurrent p rest).pending = s.pending := rfl
@[simp] theorem State.takeCurrent_powered (p : Post) (rest : List Post) :
    (s.takeCurrent p rest).powered = s.powered := rfl
@[simp] theorem State.takeCurrent_backup (p : Post) (rest : List Post) :
    (s.takeCurrent p rest).backup = s.backup := rfl
@[simp] theorem State.takeCurrent_pins (p : Post) (rest : List Post) :
    (s.takeCurrent p rest).pins = s.pins := rfl
@[simp] theorem State.takeCurrent_ret (p : Post) (rest : List Post) :
    (s.takeCurrent p rest).ret = s.ret := rfl
@[simp] theorem State.takeCurrent_journal (p : Post) (rest : List Post) :
    (s.takeCurrent p rest).journal = s.journal := rfl
@[simp] theorem State.takeCurrent_main (p : Post) (rest : List Post) :
    (s.takeCurrent p rest).main = { s.main with queue := rest, drain := if p.body.isDrain then { s.main.drain with post := .current } else s.main.drain } := rfl

@[simp] theorem State.beginAttempt_pending (c : Current) : (s.beginAttempt c).pending = s.pending := rfl
@[simp] theorem State.beginAttempt_powered (c : Current) : (s.beginAttempt c).powered = s.powered := rfl
@[simp] theorem State.beginAttempt_backup (c : Current) : (s.beginAttempt c).backup = s.backup := rfl
@[simp] theorem State.beginAttempt_pins (c : Current) : (s.beginAttempt c).pins = { s.pins with line := .heard } := rfl
@[simp] theorem State.beginAttempt_ret (c : Current) : (s.beginAttempt c).ret = s.ret := rfl
@[simp] theorem State.beginAttempt_journal (c : Current) : (s.beginAttempt c).journal = s.journal := rfl
@[simp] theorem State.beginAttempt_main (c : Current) :
    (s.beginAttempt c).main = { s.main with current := some { c with attempt := some (postBytes s.main.strap s.statusFields c.post) }, sagInAttempt := false } := rfl

@[simp] theorem State.hearPeer_pending (src : Nat) (role : Role) :
    (s.hearPeer src role).pending = s.pending := rfl
@[simp] theorem State.hearPeer_powered (src : Nat) (role : Role) :
    (s.hearPeer src role).powered = s.powered := rfl
@[simp] theorem State.hearPeer_backup (src : Nat) (role : Role) :
    (s.hearPeer src role).backup = s.backup := rfl
@[simp] theorem State.hearPeer_pins (src : Nat) (role : Role) : (s.hearPeer src role).pins = s.pins := rfl
@[simp] theorem State.hearPeer_ret (src : Nat) (role : Role) : (s.hearPeer src role).ret = s.ret := rfl
@[simp] theorem State.hearPeer_journal (src : Nat) (role : Role) :
    (s.hearPeer src role).journal = s.journal := rfl
@[simp] theorem State.hearPeer_main (src : Nat) (role : Role) :
    (s.hearPeer src role).main = { s.main with peers := s.main.peers.map fun p => if p.station = src then { p with presence := .present, role := some role, silence := startTimer (s.main.cfg.peerSilence * 1000) } else p } := rfl

@[simp] theorem State.discardStretch_pending : s.discardStretch.pending = s.pending := rfl
@[simp] theorem State.discardStretch_powered : s.discardStretch.powered = s.powered := rfl
@[simp] theorem State.discardStretch_backup : s.discardStretch.backup = s.backup := rfl
@[simp] theorem State.discardStretch_pins : s.discardStretch.pins = s.pins := rfl
@[simp] theorem State.discardStretch_ret : s.discardStretch.ret = s.ret := rfl
@[simp] theorem State.discardStretch_journal : s.discardStretch.journal = s.journal := rfl
@[simp] theorem State.discardStretch_main :
    s.discardStretch.main = { s.main with linkCheck := s.main.linkCheck + 1 } := rfl

@[simp] theorem State.enterMute_pending : (s.enterMute).pending = s.pending := rfl
@[simp] theorem State.enterMute_powered : (s.enterMute).powered = s.powered := rfl
@[simp] theorem State.enterMute_backup : (s.enterMute).backup = s.backup := rfl
@[simp] theorem State.enterMute_pins : (s.enterMute).pins = s.pins := rfl
@[simp] theorem State.enterMute_ret : (s.enterMute).ret = s.ret := rfl
@[simp] theorem State.enterMute_journal : (s.enterMute).journal = s.journal := rfl
@[simp] theorem State.enterMute_main :
    (s.enterMute).main = { s.main with mute := true } := rfl

@[simp] theorem State.silencePeer_pending (n : Nat) : (s.silencePeer n).pending = s.pending := rfl
@[simp] theorem State.silencePeer_powered (n : Nat) : (s.silencePeer n).powered = s.powered := rfl
@[simp] theorem State.silencePeer_backup (n : Nat) : (s.silencePeer n).backup = s.backup := rfl
@[simp] theorem State.silencePeer_pins (n : Nat) : (s.silencePeer n).pins = s.pins := rfl
@[simp] theorem State.silencePeer_ret (n : Nat) : (s.silencePeer n).ret = s.ret := rfl
@[simp] theorem State.silencePeer_journal (n : Nat) : (s.silencePeer n).journal = s.journal := rfl
@[simp] theorem State.silencePeer_main (n : Nat) :
    (s.silencePeer n).main = { s.main with peers := s.main.peers.map fun p => if p.station = n then { p with presence := .silent, silence := none } else p } := rfl

@[simp] theorem State.restartWalk_pending : (s.restartWalk).pending = s.pending := rfl
@[simp] theorem State.restartWalk_powered : (s.restartWalk).powered = s.powered := rfl
@[simp] theorem State.restartWalk_backup : (s.restartWalk).backup = s.backup := rfl
@[simp] theorem State.restartWalk_pins : (s.restartWalk).pins = s.pins := rfl
@[simp] theorem State.restartWalk_ret : (s.restartWalk).ret = s.ret := rfl
@[simp] theorem State.restartWalk_journal : (s.restartWalk).journal = s.journal := rfl
@[simp] theorem State.restartWalk_main :
    (s.restartWalk).main = { s.main with walk := 0 } := rfl

@[simp] theorem State.flushPorts_pending : (s.flushPorts).pending = s.pending := rfl
@[simp] theorem State.flushPorts_powered : (s.flushPorts).powered = s.powered := rfl
@[simp] theorem State.flushPorts_backup : (s.flushPorts).backup = s.backup := rfl
@[simp] theorem State.flushPorts_pins : (s.flushPorts).pins = s.pins := rfl
@[simp] theorem State.flushPorts_ret : (s.flushPorts).ret = s.ret := rfl
@[simp] theorem State.flushPorts_journal : (s.flushPorts).journal = s.journal := rfl
@[simp] theorem State.flushPorts_main :
    (s.flushPorts).main = { s.main with portA := s.main.portA.flush, portB := s.main.portB.flush } := rfl

@[simp] theorem State.setPark_pending (p : Park) : (s.setPark p).pending = s.pending := rfl
@[simp] theorem State.setPark_powered (p : Park) : (s.setPark p).powered = s.powered := rfl
@[simp] theorem State.setPark_backup (p : Park) : (s.setPark p).backup = s.backup := rfl
@[simp] theorem State.setPark_pins (p : Park) : (s.setPark p).pins = s.pins := rfl
@[simp] theorem State.setPark_ret (p : Park) : (s.setPark p).ret = s.ret := rfl
@[simp] theorem State.setPark_journal (p : Park) : (s.setPark p).journal = s.journal := rfl
@[simp] theorem State.setPark_main (p : Park) :
    (s.setPark p).main = { s.main with park := p, wakeSettle := none, parkReturn := none } := rfl

@[simp] theorem State.freeSlot_pending (i : Fin 4) : (s.freeSlot i).pending = s.pending := rfl
@[simp] theorem State.freeSlot_powered (i : Fin 4) : (s.freeSlot i).powered = s.powered := rfl
@[simp] theorem State.freeSlot_backup (i : Fin 4) : (s.freeSlot i).backup = s.backup := rfl
@[simp] theorem State.freeSlot_pins (i : Fin 4) : (s.freeSlot i).pins = s.pins := rfl
@[simp] theorem State.freeSlot_ret (i : Fin 4) : (s.freeSlot i).ret = s.ret := rfl
@[simp] theorem State.freeSlot_journal (i : Fin 4) : (s.freeSlot i).journal = s.journal := rfl
@[simp] theorem State.freeSlot_main (i : Fin 4) :
    (s.freeSlot i).main = { s.main with slots := s.main.slots.set i none, queue := s.main.queue.filter (fun p => !isAlertOf i p.body), current := s.main.current.bind (Current.reach (isAlertOf i)) } := rfl

end

end Sys2Proof.Machine
end

