-- ==== Sys2Proof/Laws/Ops.lean ====
section
/-! SUPPORT. What each shared operation does, said once, so that a proof cites it and does not unfold the
operation: frames (`_frame`), what a result can be (`_cases`), and the lemmas of sorted tables and of the log. -/

namespace Sys2Proof.Machine

/-! ## Sorted tables -/

theorem mem_insertBy {α : Type} (key : α → Nat) (x y : α) (l : List α) :
    y ∈ insertBy key x l ↔ y = x ∨ y ∈ l := by
  induction l with
  | nil => simp [insertBy]
  | cons z zs ih =>
    unfold insertBy
    split
    · simp
    · simp only [List.mem_cons, ih]
      constructor
      · rintro (h | h | h) <;> simp [h]
      · rintro (h | h | h) <;> simp [h]

@[simp] theorem length_insertBy {α : Type} (key : α → Nat) (x : α) (l : List α) :
    (insertBy key x l).length = l.length + 1 := by
  induction l with
  | nil => rfl
  | cons z zs ih =>
    unfold insertBy
    split <;> simp [ih]

/-- A table that rises strictly by its key still does after an insertion with a key it did not hold. -/
theorem pairwise_insertBy {α : Type} (key : α → Nat) (x : α) (l : List α)
    (h : (l.map key).Pairwise (· < ·)) (hx : ∀ y ∈ l, key y ≠ key x) :
    ((insertBy key x l).map key).Pairwise (· < ·) := by
  induction l with
  | nil => simp [insertBy]
  | cons z zs ih =>
    simp only [List.map_cons, List.pairwise_cons, List.mem_map] at h
    have hz := hx z (by simp)
    have tail := ih h.2 fun y hy => hx y (by simp [hy])
    unfold insertBy
    split
    · rename_i lt
      simp only [List.map_cons, List.pairwise_cons, List.mem_cons, List.mem_map]
      refine ⟨?_, h.1, h.2⟩
      rintro k (rfl | ⟨y, hy, rfl⟩)
      · exact lt
      · exact Nat.lt_trans lt (h.1 _ ⟨y, hy, rfl⟩)
    · simp only [List.map_cons, List.pairwise_cons, List.mem_map]
      refine ⟨?_, tail⟩
      rintro k ⟨y, hy, rfl⟩
      rcases (mem_insertBy key x y zs).1 hy with rfl | hy
      · omega
      · exact h.1 _ ⟨y, hy, rfl⟩

/-! ## The capture log -/

/-- An update of a record that keeps its SEQUENCE keeps the sequences of the log, in their order. -/
theorem Retained.updRecord_seqs (r : Retained) (q : Nat) (f : Record → Record)
    (h : ∀ x, (f x).seq = x.seq) : (r.updRecord q f).log.map Record.seq = r.log.map Record.seq := by
  simp only [Retained.updRecord, List.map_map]
  refine List.map_congr_left fun x _ => ?_
  simp only [Function.comp]
  split <;> simp [h]

@[simp] theorem Retained.updRecord_length (r : Retained) (q : Nat) (f : Record → Record) :
    (r.updRecord q f).log.length = r.log.length := by simp [Retained.updRecord]

@[simp] theorem Retained.updRecord_entries (r : Retained) (q : Nat) (f : Record → Record) :
    (r.updRecord q f).entries = r.entries := rfl
@[simp] theorem Retained.updRecord_nextSeq (r : Retained) (q : Nat) (f : Record → Record) :
    (r.updRecord q f).nextSeq = r.nextSeq := rfl
@[simp] theorem Retained.updRecord_routeState (r : Retained) (q : Nat) (f : Record → Record) :
    (r.updRecord q f).routeState = r.routeState := rfl
@[simp] theorem Retained.updRecord_reserved (r : Retained) (q : Nat) (f : Record → Record) :
    (r.updRecord q f).reserved = r.reserved := rfl

@[simp] theorem Record.close_seq (x : Record) : x.close.seq = x.seq := rfl
@[simp] theorem Record.withMark_seq (m : DrainMark) (x : Record) : (x.withMark m).seq = x.seq := rfl
@[simp] theorem Record.withAlert_seq (a : AlertState) (x : Record) : (x.withAlert a).seq = x.seq := rfl

/-- What an append adds: one record at the newest end, with the next sequence number. -/
theorem Retained.append_log (r : Retained) (route : Nat) (o : OpenState) (b : RecordBody) :
    (r.append route o b).log = r.log ++
      [{ seq := r.nextSeq, route := route, openState := o, mark := .unsent, alert := .none, body := b }] := rfl
@[simp] theorem Retained.append_nextSeq (r : Retained) (route : Nat) (o : OpenState) (b : RecordBody) :
    (r.append route o b).nextSeq = r.nextSeq + 1 := rfl
@[simp] theorem Retained.append_entries (r : Retained) (route : Nat) (o : OpenState) (b : RecordBody) :
    (r.append route o b).entries = r.entries := rfl
@[simp] theorem Retained.append_routeState (r : Retained) (route : Nat) (o : OpenState) (b : RecordBody) :
    (r.append route o b).routeState = r.routeState := rfl

/-! ## The route table -/

/-- An entry change touches the entries alone. -/
theorem Retained.updRunningEntry_frame (r : Retained) (m : MeterId) (f : RouteEntry → RouteEntry) :
    r.updRunningEntry m f = { r with entries := (r.updRunningEntry m f).entries } := by
  unfold Retained.updRunningEntry
  split <;> rfl

/-- The entry change of a command is one write, made while the route is RUNNING and the meter has an entry. -/
theorem State.changeEntry_cases (s : State) (m : MeterId) (f : RouteEntry → RouteEntry) :
    (s.ret.runningEntryOf m = none ∧ s.changeEntry m f = s) ∨
      ∃ e, s.ret.runningEntryOf m = some e ∧ s.changeEntry m f = s.write fun r => r.updEntry m f := by
  unfold State.changeEntry
  split
  · exact .inr ⟨_, ‹_›, rfl⟩
  · exact .inl ⟨‹_›, rfl⟩

theorem State.changeEntry_frame (s : State) (m : MeterId) (f : RouteEntry → RouteEntry) :
    (s.changeEntry m f).main = s.main ∧ (s.changeEntry m f).powered = s.powered ∧
      (s.changeEntry m f).pins = s.pins ∧ (s.changeEntry m f).pending = s.pending ∧
      (s.changeEntry m f).ret = { s.ret with entries := (s.changeEntry m f).ret.entries } := by
  rcases s.changeEntry_cases m f with ⟨-, h⟩ | ⟨_, -, h⟩ <;> (rw [h]; exact ⟨rfl, rfl, rfl, rfl, rfl⟩)

/-! ## The transmit queue -/

/-- An offer is taken whole or changes nothing (R81). -/
theorem State.offer_cases (s : State) (p : Post) :
    (s.takesOffer p = true ∧ s.offer p = (s.enqueue p).reachCurrent p.body.replaces) ∨
      (s.takesOffer p = false ∧ s.offer p = s) := by
  unfold State.offer
  cases h : s.takesOffer p
  · exact .inr ⟨rfl, by simp⟩
  · exact .inl ⟨rfl, by simp⟩

/-- An offer reaches the queue and the transmitter alone. -/
theorem State.offer_frame (s : State) (p : Post) :
    s.offer p = { s with main := { s.main with
      queue := (s.offer p).main.queue, current := (s.offer p).main.current } } := by
  rcases s.offer_cases p with ⟨-, h⟩ | ⟨-, h⟩
  · rw [h]; rfl
  · rw [h]

@[simp] theorem State.offer_pending (s : State) (p : Post) : (s.offer p).pending = s.pending := by
  rw [s.offer_frame p]
@[simp] theorem State.offer_powered (s : State) (p : Post) : (s.offer p).powered = s.powered := by
  rw [s.offer_frame p]
@[simp] theorem State.offer_backup (s : State) (p : Post) : (s.offer p).backup = s.backup := by
  rw [s.offer_frame p]
@[simp] theorem State.offer_pins (s : State) (p : Post) : (s.offer p).pins = s.pins := by
  rw [s.offer_frame p]
@[simp] theorem State.offer_ret (s : State) (p : Post) : (s.offer p).ret = s.ret := by
  rw [s.offer_frame p]
@[simp] theorem State.offer_journal (s : State) (p : Post) : (s.offer p).journal = s.journal := by
  rw [s.offer_frame p]
@[simp] theorem State.offer_contacts (s : State) (p : Post) :
    (s.offer p).main.contacts = s.main.contacts := by rw [s.offer_frame p]
@[simp] theorem State.offer_drain (s : State) (p : Post) : (s.offer p).main.drain = s.main.drain := by
  rw [s.offer_frame p]
@[simp] theorem State.offer_slots (s : State) (p : Post) : (s.offer p).main.slots = s.main.slots := by
  rw [s.offer_frame p]
@[simp] theorem State.offer_peers (s : State) (p : Post) : (s.offer p).main.peers = s.main.peers := by
  rw [s.offer_frame p]
@[simp] theorem State.offer_cfg (s : State) (p : Post) : (s.offer p).main.cfg = s.main.cfg := by
  rw [s.offer_frame p]
@[simp] theorem State.offer_walk (s : State) (p : Post) : (s.offer p).main.walk = s.main.walk := by
  rw [s.offer_frame p]

/-- A post in the queue after an offer is the one offered or was there before. -/
theorem State.mem_offer_queue (s : State) (p x : Post) (h : x ∈ (s.offer p).main.queue) :
    x = p ∨ x ∈ s.main.queue := by
  rcases s.offer_cases p with ⟨-, e⟩ | ⟨-, e⟩ <;> rw [e] at h
  · simp only [State.reachCurrent_main, State.enqueue_main, List.mem_append, List.mem_filter,
      List.mem_singleton] at h
    rcases h with ⟨h, -⟩ | h
    · exact .inr h
    · exact .inl h
  · exact .inr h

/-- A withdrawal leaves in the queue the posts it does not name. -/
theorem State.mem_withdraw_queue (s : State) (hit : PostBody → Bool) (x : Post) :
    x ∈ (s.withdraw hit).main.queue ↔ x ∈ s.main.queue ∧ hit x.body = false := by
  simp [State.withdraw_main]

/-- An offered STATUS reaches the queue, the transmitter and the status timer alone (R90). -/
theorem State.offerStatus_frame (s : State) :
    s.offerStatus = { s with main := { s.main with
      queue := s.offerStatus.main.queue, current := s.offerStatus.main.current
      statusTimer := startTimer (s.main.cfg.statusInterval * 1000) } } := by
  unfold State.offerStatus
  rw [s.offer_frame { mask := maskAll, body := .status }]

@[simp] theorem State.offerStatus_pending (s : State) : s.offerStatus.pending = s.pending := by
  rw [s.offerStatus_frame]
@[simp] theorem State.offerStatus_powered (s : State) : s.offerStatus.powered = s.powered := by
  rw [s.offerStatus_frame]
@[simp] theorem State.offerStatus_backup (s : State) : s.offerStatus.backup = s.backup := by
  rw [s.offerStatus_frame]
@[simp] theorem State.offerStatus_pins (s : State) : s.offerStatus.pins = s.pins := by
  rw [s.offerStatus_frame]
@[simp] theorem State.offerStatus_ret (s : State) : s.offerStatus.ret = s.ret := by
  rw [s.offerStatus_frame]
@[simp] theorem State.offerStatus_journal (s : State) : s.offerStatus.journal = s.journal := by
  rw [s.offerStatus_frame]

/-! ## Raising and holding -/

/-- The alert test does nothing, or makes one record PENDING as one write (R62). -/
theorem State.raise_cases (s : State) (q : Nat) :
    s.raise q = s ∨ s.raise q = s.write fun r => r.updRecord q (Record.withAlert .pending) := by
  unfold State.raise
  split
  · exact .inl rfl
  · split
    · split
      · exact .inr rfl
      · exact .inl rfl
    · exact .inl rfl

@[simp] theorem State.raise_main (s : State) (q : Nat) : (s.raise q).main = s.main := by
  rcases s.raise_cases q with h | h <;> rw [h]; rfl
@[simp] theorem State.raise_powered (s : State) (q : Nat) : (s.raise q).powered = s.powered := by
  rcases s.raise_cases q with h | h <;> rw [h]; rfl
@[simp] theorem State.raise_backup (s : State) (q : Nat) : (s.raise q).backup = s.backup := by
  rcases s.raise_cases q with h | h <;> rw [h]; rfl
@[simp] theorem State.raise_pins (s : State) (q : Nat) : (s.raise q).pins = s.pins := by
  rcases s.raise_cases q with h | h <;> rw [h]; rfl
@[simp] theorem State.raise_pending (s : State) (q : Nat) : (s.raise q).pending = s.pending := by
  rcases s.raise_cases q with h | h <;> rw [h]; rfl
@[simp] theorem State.raise_entries (s : State) (q : Nat) :
    (s.raise q).ret.entries = s.ret.entries := by
  rcases s.raise_cases q with h | h <;> rw [h]; rfl
@[simp] theorem State.raise_nextSeq (s : State) (q : Nat) :
    (s.raise q).ret.nextSeq = s.ret.nextSeq := by
  rcases s.raise_cases q with h | h <;> rw [h]; rfl

/-- Entering HELD touches the contact, the log with its counter, and the entries. -/
theorem State.enterHeld_frame (s : State) (c : Contact) :
    (s.enterHeld c).main = { s.main with contacts := (s.enterHeld c).main.contacts } ∧
      (s.enterHeld c).ret.nextSeq = s.ret.nextSeq + 1 ∧
      (s.enterHeld c).powered = s.powered ∧ (s.enterHeld c).pins = s.pins ∧
      (s.enterHeld c).pending = s.pending := by
  refine ⟨?_, ?_, ?_, ?_, ?_⟩
  · simp [State.enterHeld]
  · simp only [State.enterHeld, State.raise_nextSeq, State.setContact_ret, State.write_ret,
      Retained.openRecord]
    rw [Retained.updRunningEntry_frame]
    rfl
  all_goals simp [State.enterHeld]

/-- What a claim attempt can do (R101 to R105): nothing, NOROOM, a cession, HELD, or an offered CLAIM. -/
theorem State.attemptClaim_cases (s : State) (m : MeterId) :
    s.attemptClaim m = s ∨ ∃ c, s.contactOf m = some c ∧ c.state = .listening ∧
      ((s.ret.room = false ∧ s.attemptClaim m = s.setContact { c with noroom := true }) ∨
        (s.ret.room = true ∧
          ((∃ k, s.betterClaimant c = some k ∧
              s.attemptClaim m = s.setContact { c with state := .ceded k }) ∨
            (s.betterClaimant c = none ∧ (c.reread || s.main.mute) = true ∧
              s.attemptClaim m = s.enterHeld c) ∨
            (s.betterClaimant c = none ∧ (c.reread || s.main.mute) = false ∧
              s.attemptClaim m = s.offerClaim c)))) := by
  unfold State.attemptClaim
  split
  · exact .inl rfl
  · rename_i c hc
    split
    · exact .inl rfl
    · rename_i hl
      refine .inr ⟨c, hc, by simpa using hl, ?_⟩
      split
      · exact .inl ⟨‹_›, rfl⟩
      · rename_i hr
        refine .inr ⟨by simpa using hr, ?_⟩
        split
        · rename_i k hk
          exact .inl ⟨k, hk, rfl⟩
        · rename_i hk
          split
          · exact .inr (.inl ⟨hk, ‹_›, rfl⟩)
          · rename_i hm
            exact .inr (.inr ⟨hk, by simpa using hm, rfl⟩)

/-- The offer of a claim attempt (R105). -/
theorem State.offerClaim_cases (s : State) (c : Contact) :
    (s.takesOffer (claimPost c.meter c.bestQuality .claiming) = true ∧
      s.offerClaim c = (s.offer (claimPost c.meter c.bestQuality .claiming)).setContact
        { c with state := .claiming, noroom := false,
                 settle := startTimer (s.main.cfg.settle * 100) }) ∨
    (s.takesOffer (claimPost c.meter c.bestQuality .claiming) = false ∧ s.offerClaim c = s) := by
  unfold State.offerClaim
  cases h : s.takesOffer (claimPost c.meter c.bestQuality .claiming)
  · exact .inr ⟨rfl, by simp [h]⟩
  · exact .inl ⟨rfl, by simp [h]⟩

/-! ## Removal -/

/-- What the removal of a contact can do, by its state (R39). -/
theorem State.removeContact_cases (s : State) (m : MeterId) :
    (s.contactOf m = none ∧ s.removeContact m = s) ∨ ∃ c, s.contactOf m = some c ∧
      ((∃ q, c.state = .held q ∧
          s.removeContact m = (s.write fun r => r.updRecord q Record.close).dropContact m) ∨
        (c.state = .claiming ∧ s.removeContact m = (s.withdraw (isClaimingClaim m)).dropContact m) ∨
        ((c.state = .listening ∨ ∃ k, c.state = .ceded k) ∧ s.removeContact m = s.dropContact m)) := by
  unfold State.removeContact
  split
  · exact .inl ⟨‹_›, rfl⟩
  · rename_i c hc
    refine .inr ⟨c, hc, ?_⟩
    split
    · exact .inl ⟨_, ‹_›, rfl⟩
    · exact .inr (.inl ⟨‹_›, rfl⟩)
    · exact .inr (.inr ⟨.inl ‹_›, rfl⟩)
    · exact .inr (.inr ⟨.inr ⟨_, ‹_›⟩, rfl⟩)

/-- A run of writes, one after another, touches the retained domain and the journal alone. -/
theorem State.foldl_write_frame {α : Type} (f : α → Retained → Retained) (l : List α) (s : State) :
    (l.foldl (fun u q => u.write (f q)) s).main = s.main ∧
      (l.foldl (fun u q => u.write (f q)) s).powered = s.powered ∧
      (l.foldl (fun u q => u.write (f q)) s).pins = s.pins ∧
      (l.foldl (fun u q => u.write (f q)) s).pending = s.pending ∧
      (l.foldl (fun u q => u.write (f q)) s).ret = l.foldl (fun r q => f q r) s.ret := by
  induction l generalizing s with
  | nil => exact ⟨rfl, rfl, rfl, rfl, rfl⟩
  | cons a l ih => exact ih (s.write (f a))

theorem State.foldl_write_backup {α : Type} (f : α → Retained → Retained) (l : List α) (s : State) :
    (l.foldl (fun u q => u.write (f q)) s).backup = s.backup := by
  induction l generalizing s with
  | nil => rfl
  | cons a l ih => exact ih (s.write (f a))

/-- A run of updates of records, each keeping its SEQUENCE, is one pass over the log when an update made twice is
one made once. -/
theorem Retained.foldl_updRecord (f : Record → Record) (hs : ∀ x, (f x).seq = x.seq)
    (hf : ∀ x, f (f x) = f x) (l : List Nat) (r : Retained) :
    l.foldl (fun r q => r.updRecord q f) r =
      { r with log := r.log.map fun x => if x.seq ∈ l then f x else x } := by
  induction l generalizing r with
  | nil => simp
  | cons q l ih =>
    simp only [List.foldl_cons]
    rw [ih]
    simp only [Retained.updRecord, List.map_map, Retained.mk.injEq, true_and, and_true]
    refine List.map_congr_left fun x _ => ?_
    simp only [Function.comp, List.mem_cons]
    by_cases h : x.seq = q <;> by_cases h' : x.seq ∈ l <;> simp [h, h', hs, hf]

/-- The marking of a batch (R166, R168) touches DRAIN-MARK of the records named, and nothing of the main domain. -/
theorem State.markAll_ret (s : State) (m : DrainMark) (l : List Nat) :
    (s.markAll m l).ret =
      { s.ret with log := s.ret.log.map fun x => if x.seq ∈ l then x.withMark m else x } := by
  have h := (State.foldl_write_frame (fun q r => r.updRecord q (Record.withMark m)) l s).2.2.2.2
  unfold State.markAll
  rw [h]
  exact Retained.foldl_updRecord (Record.withMark m) (fun _ => rfl) (fun _ => rfl) l s.ret

@[simp] theorem State.markAll_main (s : State) (m : DrainMark) (l : List Nat) :
    (s.markAll m l).main = s.main :=
  (State.foldl_write_frame (fun q r => r.updRecord q (Record.withMark m)) l s).1
@[simp] theorem State.markAll_backup (s : State) (m : DrainMark) (l : List Nat) :
    (s.markAll m l).backup = s.backup :=
  State.foldl_write_backup (fun q r => r.updRecord q (Record.withMark m)) l s
@[simp] theorem State.markAll_powered (s : State) (m : DrainMark) (l : List Nat) :
    (s.markAll m l).powered = s.powered :=
  (State.foldl_write_frame (fun q r => r.updRecord q (Record.withMark m)) l s).2.1
@[simp] theorem State.markAll_pins (s : State) (m : DrainMark) (l : List Nat) :
    (s.markAll m l).pins = s.pins :=
  (State.foldl_write_frame (fun q r => r.updRecord q (Record.withMark m)) l s).2.2.1
@[simp] theorem State.markAll_pending (s : State) (m : DrainMark) (l : List Nat) :
    (s.markAll m l).pending = s.pending :=
  (State.foldl_write_frame (fun q r => r.updRecord q (Record.withMark m)) l s).2.2.2.1

/-- The clearing of the contact table (R39) empties it, closes the records the HELD contacts own, and leaves the
rest of the main domain but the queue and the transmitter alone. -/
theorem State.clearContacts_frame (s : State) :
    s.clearContacts.main = { s.main with
        contacts := [], queue := s.clearContacts.main.queue, current := s.clearContacts.main.current } ∧
      s.clearContacts.ret = { s.ret with
        log := s.ret.log.map fun x => if x.seq ∈ s.heldSeqs then x.close else x } ∧
      s.clearContacts.powered = s.powered ∧ s.clearContacts.pins = s.pins ∧
      s.clearContacts.pending = s.pending := by
  obtain ⟨h1, h2, h3, h4, h5⟩ :=
    State.foldl_write_frame (fun q r => r.updRecord q Record.close) s.heldSeqs s
  refine ⟨?_, ?_, ?_, ?_, ?_⟩
  · simp [State.clearContacts, State.withdraw_main, h1]
  · simp only [State.clearContacts, State.withdraw_ret]
    rw [h5]
    exact Retained.foldl_updRecord Record.close (fun _ => rfl) (fun _ => rfl) _ _
  · simpa [State.clearContacts] using h2
  · simpa [State.clearContacts] using h3
  · simpa [State.clearContacts] using h4

@[simp] theorem State.clearContacts_backup (s : State) : s.clearContacts.backup = s.backup := by
  simpa [State.clearContacts] using
    State.foldl_write_backup (fun q r => r.updRecord q Record.close) s.heldSeqs s

/-! ## The frames in progress -/

/-- A stretch of a port's line activity (R1, R5) touches that port and the level its frame-valid is seen at, and no
more. -/
theorem State.lineStretch_frame (s : State) (p : Port) (bits : List Bool) (falls : Bool) :
    ∃ x, s.lineStretch p bits falls =
      ({ s with pins := s.pins.setFrameValid p (!falls) } : State).setPort p x := by
  cases falls
  · exact ⟨_, rfl⟩
  · simp only [State.lineStretch, State.frameCompleted]
    by_cases h : (((s.clockedFrame p bits).getD []).isEmpty) = true
    · exact ⟨{ s.main.port p with receiving := none }, by simp [h]⟩
    · refine ⟨PortState.store { s.main.port p with receiving := none }
        (portSettings s.main.cfg p).keepNewest
        (frameOf ((s.clockedFrame p bits).getD []) s.ret.stationClock), ?_⟩
      cases p <;> simp [h] <;> rfl

/-- A port that does not run gathers no bit and completes no frame (R5): its slots and counters stay. -/
theorem State.lineStretch_stopped (s : State) (p : Port) (bits : List Bool) (falls : Bool)
    (h : s.portRuns p = false) :
    s.lineStretch p bits falls =
      ({ s with pins := s.pins.setFrameValid p (!falls) } : State).setPort p
        { s.main.port p with receiving := none } := by
  cases p <;> cases falls <;> simp [State.lineStretch, State.clockedFrame, h, State.frameCompleted]

/-! ## The drain engine -/

/-- The engine's post is dealt with by where it stands (R166, step 2), and nothing else of the main domain moves. -/
theorem State.clearDrainPost_main (s : State) : s.clearDrainPost.main = s.main.withoutDrainPost := by
  unfold State.clearDrainPost Main.withoutDrainPost State.inAttempt
  rcases s with ⟨pending, powered, backup, pins, ret, main, journal⟩
  rcases main with ⟨⟩
  rename_i current _ _ _ _ _ _ _ _ drain _ _ _ _ _ _ _
  rcases drain with ⟨_, _, _, _, post, _⟩
  rcases current with _ | ⟨_, _, _ | _, _⟩ <;> cases post <;> rfl

/-- The clearing of the engine's post touches the main domain alone. -/
theorem State.clearDrainPost_frame (s : State) :
    s.clearDrainPost.ret = s.ret ∧ s.clearDrainPost.powered = s.powered ∧
      s.clearDrainPost.backup = s.backup ∧ s.clearDrainPost.pins = s.pins ∧
      s.clearDrainPost.pending = s.pending := by
  unfold State.clearDrainPost
  split <;> (try split) <;> exact ⟨rfl, rfl, rfl, rfl, rfl⟩

/-- Clearing a batch (R166): the engine's post is dealt with, the commit wait stops, and BATCH is empty. -/
theorem State.clearBatch_main (s : State) :
    s.clearBatch.main = { s.main.withoutDrainPost with
      drain := { s.main.drain with
        batch := [], position := 0, post := s.main.withoutDrainPost.drain.post, commitWait := none } } := by
  have h := State.clearDrainPost_main (s.markAll .unsent s.main.drain.batch)
  rw [State.markAll_main] at h
  simp only [State.clearBatch, State.setDrain, h]
  rfl

/-- Clearing a batch returns its records to UNSENT (R166) and touches nothing else of the retained domain. -/
theorem State.clearBatch_ret (s : State) :
    s.clearBatch.ret = { s.ret with
      log := s.ret.log.map fun x => if x.seq ∈ s.main.drain.batch then x.withMark .unsent else x } := by
  rw [← State.markAll_ret]
  exact (State.clearDrainPost_frame (s.markAll .unsent s.main.drain.batch)).1

/-- An early end of a drain on the main domain (section 9.4). -/
theorem State.endDrain_main (s : State) : s.endDrain.main = s.main.drainEnded := by
  unfold State.endDrain Main.drainEnded
  split
  · rfl
  · simp only [State.setDrain, State.clearBatch_main]

/-! ## The receiver -/

/-- A post during an attempt of this station leaves everything as it is (R85). -/
theorem State.postPasses_inAttempt (s : State) (h : s.inAttempt = true) : s.postPasses = s := by
  simp [State.postPasses, State.postBegins, State.postEnds, h]

/-- A quiet gap outside an attempt leaves the line quiet and counts a heard stretch that it ends (R86); nothing else
moves. -/
theorem State.lineSilent_eq (s : State) (quiet : Nat) :
    s.lineSilent quiet =
      if s.inAttempt = false ∧ quietGapUs ≤ quiet then
        { s with
          pins := { s.pins with line := .quiet }
          main := { s.main with linkCheck :=
            if s.pins.line = .heard then s.main.linkCheck + 1 else s.main.linkCheck } }
      else s := by
  unfold State.lineSilent
  split
  · by_cases hl : s.pins.line = .heard <;> simp [hl, State.setLine, State.discardStretch]
  · rfl

/-- A quiet gap that ends no heard stretch leaves the line quiet (R85). -/
theorem State.lineSilent_of_not_heard (s : State) (quiet : Nat) (ha : s.inAttempt = false)
    (hq : quietGapUs ≤ quiet) (hl : s.pins.line ≠ .heard) : s.lineSilent quiet = s.setLine .quiet := by
  simp [State.lineSilent_eq, ha, hq, hl, State.setLine]

/-- A quiet gap leaves the current post as it is. -/
theorem State.lineSilent_current (s : State) (quiet : Nat) :
    (s.lineSilent quiet).main.current = s.main.current := by
  rw [State.lineSilent_eq]
  split <;> rfl

/-- Line activity leaves the current post as it is. -/
theorem State.lineActive_inAttempt (s : State) (quiet : Nat) :
    (s.lineActive quiet).inAttempt = s.inAttempt := by
  have h : (s.lineActive quiet).main.current = s.main.current := by
    rw [← State.lineSilent_current s quiet]
    simp only [State.lineActive]
    split <;> rfl
  simp only [State.inAttempt, h]

/-- A post that is over leaves the line quiet, and wakes a station in PARKED on whose quiet line it began (R85,
R187). -/
theorem State.postPasses_eq (s : State) (h : s.inAttempt = false) :
    s.postPasses =
      if s.powered = true ∧ s.main.park = .parked ∧ s.pins.line = .quiet then
        { s.setLine .quiet with
          main := { s.main with park := .linkAwake, wakeSettle := startTimer wakeSettleMs } }
      else s.setLine .quiet := by
  by_cases hq : s.pins.line = .quiet
  · have e : s.postPasses = (s.lineActive quietGapUs).setLine .quiet := by
      simp [State.postPasses, State.postBegins, State.postEnds, h, hq, State.lineActive_inAttempt]
    have hn : s.lineSilent quietGapUs = s.setLine .quiet :=
      State.lineSilent_of_not_heard s _ h (Nat.le_refl _) (by simp [hq])
    simp only [e, hq, hn, and_true, State.lineActive, Nat.le_refl]
    split <;> rfl
  · simp [State.postPasses, State.postBegins, State.postEnds, h, hq]

/-- A post is received only outside the station's own attempts and outside PARKED, so that the line is quiet after it
and nothing else has moved (R85). -/
theorem State.postPasses_of_receives (s : State) (h : s.receives = true) :
    s.postPasses = s.setLine .quiet := by
  simp only [State.receives, State.receptive, State.awake, Bool.and_eq_true, Bool.or_eq_true,
    Bool.not_eq_true', beq_iff_eq] at h
  rw [State.postPasses_eq s h.1.2, if_neg]
  rintro ⟨-, hp, -⟩
  rcases h.1.1.2 with hr | ⟨hr, -⟩ <;> simp [hr] at hp

/-- What the judgement of a received post's sender can come to (R87). -/
theorem State.judgeSender_cases (s : State) (src : Nat) (role : Option Role) (act : State → State) :
    ((role = none ∨ src = 0) ∧ s.judgeSender src role act = s) ∨
      (src ≠ 0 ∧ src = s.main.strap ∧ s.judgeSender src role act = s.enterMute) ∨
      ∃ r, role = some r ∧ src ≠ 0 ∧ src ≠ s.main.strap ∧
        s.judgeSender src role act = act (s.hearPeer src r) := by
  unfold State.judgeSender
  cases role with
  | none => exact .inl ⟨.inl rfl, rfl⟩
  | some r =>
    simp only
    split
    · exact .inl ⟨.inr ‹_›, rfl⟩
    · rename_i h0
      split
      · exact .inr (.inl ⟨h0, ‹_›, rfl⟩)
      · exact .inr (.inr ⟨r, rfl, h0, ‹_›, rfl⟩)

/-- What the end of a valid post can come to (R85, R87). -/
theorem State.hear_cases (s : State) (src : Nat) (role : Option Role) (act : State → State) :
    ((s.receives = false ∨ role = none ∨ src = 0) ∧ s.hear src role act = s.postPasses) ∨
      (s.receives = true ∧ src ≠ 0 ∧ src = s.main.strap ∧
        s.hear src role act = (s.setLine .quiet).enterMute) ∨
      ∃ r, s.receives = true ∧ role = some r ∧ src ≠ 0 ∧ src ≠ s.main.strap ∧
        s.hear src role act = act ((s.setLine .quiet).hearPeer src r) := by
  unfold State.hear
  split
  · rename_i hr
    rw [State.postPasses_of_receives s hr]
    rcases State.judgeSender_cases (s.setLine .quiet) src role act with ⟨h, e⟩ | ⟨h0, h, e⟩ | ⟨r, h, h0, hs, e⟩
    · exact .inl ⟨.inr h, e⟩
    · exact .inr (.inl ⟨hr, h0, h, e⟩)
    · exact .inr (.inr ⟨r, hr, h, h0, hs, e⟩)
  · rename_i hr
    exact .inl ⟨.inl (by simpa using hr), rfl⟩

/-- The judgement of a post that R87 hands on: it is acted on. -/
theorem State.hear_of_takesFrom (s : State) (src : Nat) (r : Role) (act : State → State)
    (hr : s.receives = true) (h0 : src ≠ 0) (hs : src ≠ s.main.strap) :
    s.hear src (some r) act = act ((s.setLine .quiet).hearPeer src r) := by
  simp [State.hear, State.judgeSender, hr, h0, hs, State.postPasses_of_receives s hr]

end Sys2Proof.Machine
end

