-- ==== Sys2Proof/WellFormed.lean ====
section
/-! DEFINITION. Which commands are well formed: the operands that no run of the part can present are
refused here. The meanings are total and do not rely on it. -/

namespace Sys2Proof

/-- A METER-ID that a contact can have: neither 0 nor FFFFFFFFh (R11, R21). -/
def wfMeter (m : MeterId) : Bool := m != 0 && m != 0xFFFFFFFF#32

/-- Well-formed commands: a timer expiry names a meter a contact can follow (R21), a ROUTE-ENTRY carries
one to three entries (R129), a silence timer belongs to one of the stations 1–15 (R95), and the
configuration block has 32 bytes (R193). -/
def Instr.wf : Instr → Bool
  | .idleExpiry m => wfMeter m
  | .holdOffExpiry m => wfMeter m
  | .settleExpiry m => wfMeter m
  | .routeEntry _ es => 1 ≤ es.length && es.length ≤ 3
  | .silence n => n != 0
  | .startUp _ block _ _ => block.length == 32
  | .frameComplete .. => true
  | .take _ => true
  | .attempt _ => true
  | .postSent => true
  | .attemptLost => true
  | .postReceived _ => true
  | .claim .. => true
  | .yield .. => true
  | .status .. => true
  | .alert .. => true
  | .alertAck .. => true
  | .routeBegin .. => true
  | .routeGo _ => true
  | .routeClose _ => true
  | .walkStep => true
  | .park _ => true
  | .run _ => true
  | .reset .. => true
  | .configQuery .. => true
  | .countQuery .. => true
  | .drainOpen _ => true
  | .commit .. => true
  | .drainClose _ => true
  | .commitWaitExpiry => true
  | .drainPostOffer => true
  | .promotion => true
  | .statusTimerExpiry => true
  | .ignFallingEdge => true
  | .ignRisingEdge => true
  | .wake _ => true
  | .wakeSettleExpiry => true
  | .parkReturnExpiry => true
  | .enterSag _ => true
  | .returnToNormal _ => true
  | .mainSupplyLoss _ => true
  | .backupSupplyLoss => true

end Sys2Proof
end

