-- ==== Sys2Proof/Tests/Slice0.lean ====
section
/-! SUPPORT. Tests on small states, one step each, with results taken from the manual's worked sequences, and a
witness for the hypotheses of every statement of Certificates/Slice0/Obligations.lean. -/

namespace Sys2Proof.Tests

open Sys2Proof.Machine

/-! ## Small states -/

/-- The state `exec` answers with. -/
def after (i : Instr) (s : State) : State :=
  match exec i s with
  | .next t => t
  | .fault _ => s
  | .refused _ => s

/-- Right after reset, with the first STATUS sent. -/
def quiet : State := { State.reset with main := { State.reset.main with queue := [] } }

/-- A contact of meter `m` in state `x`. -/
def contact (m : MeterId) (x : ContactState) : Contact :=
  { meter := m, utility := 1, state := x, firstArrival := 0, lastArrival := 0, bestQuality := 37,
    arrivals := 1, ring := [{ time := 0, counter := 71, reading := 100, flags := 0 }], reading := 100,
    dials := 6, resets := 0, flags := 0, findings := 0, measures := none, stray := false,
    reread := false, noroom := false, solo := false, eligible := true, idlePending := false,
    idle := some 15000, holdOff := none, settle := none }

/-- A CLAIMING contact of meter `m` with its settle timer at 1500 ms. -/
def claimer (m : MeterId) : Contact := { contact m .claiming with settle := some 1500 }

/-- A LISTENING contact of meter `m` with its hold-off timer at 800 ms. -/
def listener (m : MeterId) : Contact :=
  { contact m .listening with eligible := false, holdOff := some 800 }

/-- The entry of meter `m` at index `i` in state `x`, as the clone of section 3.6 is billed. -/
def entry (i : Nat) (m : MeterId) (x : EntryState) : RouteEntry :=
  { index := i, meter := m, dr := 6, p := 3850, a := 43200, c := 12, b := 20, kr := none,
    hint := none, watch := false, state := x, z := none, findings := 0, double := false }

/-- A READ record of meter `m`. -/
def record (q : Nat) (m : MeterId) (o : OpenState) (d : DrainMark) (a : AlertState)
    (fs : FindingSet) : Record :=
  { seq := q, route := 28, openState := o, mark := d, alert := a
    body := .read
      { meter := m, utility := 1, dials := 6, reading := 100, measures := none, flags := 0, resets := 0,
        quality := 37, firstHeard := 0, lastHeard := 0, arrivals := 1, findings := fs,
        marks := { stray := false, reread := false, solo := false, double := false,
                   interrupted := false } } }

/-- A CLOSED and UNSENT record without findings. -/
def closedRecord (q : Nat) : Record := record q 5#32 .closed .unsent .none 0

/-- `s` with the contacts `cs`. -/
def withContacts (cs : List Contact) (s : State) : State :=
  { s with main := { s.main with contacts := cs } }

/-- `s` with the queue `q` and the current post `c`. -/
def withLink (q : List Post) (c : Option Current) (s : State) : State :=
  { s with main := { s.main with queue := q, current := c } }

/-- `s` with the log `l`, whose next sequence is `n`. -/
def withLog (l : List Record) (n : Nat) (s : State) : State :=
  { s with ret := { s.ret with log := l, nextSeq := n } }

/-- Route 28 in state `x` with the entries `es`, two indices and the reservation of a route in progress. -/
def onRoute (x : RouteState) (es : List RouteEntry) (s : State) : State :=
  { s with ret := { s.ret with
      routeState := x, routeNumber := 28, clampedCount := 2, entries := es, reserved := x.inProgress } }

/-- A full queue: sixteen reports. -/
def fullQueue : List Post := List.replicate 16 { mask := 2#16, body := .configReport 1 true false defaultSettings }

/-- Meter 00C30042h, whose clone the manual follows (sections 3.6 and 12.4). -/
def meterA : MeterId := 0x00C30042#32

/-- A port frame with the level byte 40: meter, dial count, reading, burst counter, and a check word off by
`fault`. -/
def frame (m : MeterId) (d n c fault : Nat) : Frame :=
  let burst := beBytes 4 m.toNat ++ [0x11#8] ++ beBytes 4 (d * 2 ^ 28 + n) ++ beBytes 1 c ++ [0x00#8, 0x00#8]
  { bytes := 40#8 :: burst ++ beBytes 2 ((checkWord burst + fault) % 65536), isExact := true, time := 0 }

/-- `s` with the frames `fs` stored on port A. -/
def withFrames (fs : List Frame) (s : State) : State :=
  { s with main := { s.main with portA := { freshPort with slots := fs } } }

/-- `s` with stray capture on. -/
def capturing (s : State) : State :=
  { s with main := { s.main with cfg := { s.main.cfg with strayCapture := true } } }

/-- The bytes of a post: SOURCE and ROLE, KIND, MASK and BODY. -/
def post (first kind : Byte) (mask : Nat) (body : List Byte) : List Byte :=
  let covered := [first, kind] ++ beBytes 2 mask ++ beBytes 2 body.length ++ body
  0x96#8 :: covered ++ beBytes 2 (checkWord covered)

/-- `s` with the drain engine `d`. -/
def draining (d : Drain) (s : State) : State := s.setDrain d

/-- A STATUS as an offered post. -/
def statusPost : Post := { mask := 0xFFFE#16, body := .status }

/-- The current post `p` after `k` losses, in an attempt when `busy`. -/
def current (p : Post) (k : Nat) (busy drop : Bool) : Option Current :=
  some { post := p, losses := k, attempt := if busy then some [] else none, dropAtLoss := drop }

/-! ## Well-formed commands -/

theorem test_wf_refuses_invalid_meter :
    (Instr.idleExpiry 0#32).wf = false ∧ (Instr.holdOffExpiry 0xFFFFFFFF#32).wf = false ∧
      (Instr.settleExpiry 0#32).wf = false ∧ (Instr.idleExpiry 1#32).wf = true := by decide

theorem test_wf_refuses_entry_count :
    (Instr.routeEntry 14#4 []).wf = false ∧
      (Instr.routeEntry 14#4 (List.replicate 4 (decodeEntry []))).wf = false ∧
      (Instr.routeEntry 14#4 (List.replicate 3 (decodeEntry []))).wf = true := by decide

theorem test_wf_refuses_silence_of_no_station :
    (Instr.silence 0#4).wf = false ∧ (Instr.silence 15#4).wf = true := by decide

theorem test_wf_refuses_short_block :
    (Instr.startUp 1#4 (List.replicate 31 0xFF#8) true 12000).wf = false ∧
      (Instr.startUp 1#4 (List.replicate 32 0xFF#8) true 12000).wf = true := by decide

/-! ## The step and the ports -/

theorem test_step_takes_front :
    ∃ t, step { quiet with pending := [.enterSag 100, .postSent] } = .next t ∧ t.pending = [.postSent] ∧
      t.main.supply = .sag := ⟨_, rfl, by decide⟩

theorem witness_idle_step :
    (State.reset.pending = [] ∧ State.reset.powered = true ∧ State.reset.ret.retentionValid = true) ∧
      (after (.attempt 0) (onRoute .running [] quiet)).ret.routeState = .running ∧
      ((after (.mainSupplyLoss 0) quiet).pending = [] ∧ (after (.mainSupplyLoss 0) quiet).powered = false ∧
        (after (.mainSupplyLoss 0) quiet).ret.retentionValid = true) := by decide

/-- Overrun under each policy (section 1.4): F3 takes F1's place under KEEP-NEWEST, and is lost under
KEEP-OLDEST. -/
theorem test_overrun_by_policy :
    let p : PortState := { freshPort with slots := [frame 1#32 4 1 1 0, frame 2#32 4 1 1 0] }
    (p.store true (frame 3#32 4 1 1 0)).slots = [frame 2#32 4 1 1 0, frame 3#32 4 1 1 0] ∧
      (p.store false (frame 3#32 4 1 1 0)).slots = p.slots ∧
      (p.store true (frame 3#32 4 1 1 0)).counters.overrun = 1 := by decide

/-- A frame under way on a port that runs, one just begun, and a full port. -/
theorem witness_frame_complete :
    let up := after (.frameComplete .a 3 [true] false) quiet
    let full := withFrames [frame 1#32 4 1 1 0, frame 2#32 4 1 1 0] quiet
    (quiet.portRuns .a = true ∧ quiet.pins.frameValid .a = false) ∧
      (up.portRuns .a = true ∧ up.pins.frameValid .a = true ∧ (up.main.port .a).receiving = some [true]) ∧
      ((after (.frameComplete .a 2 (List.replicate 8 true) true) up).main.port .a).slots =
        [{ bytes := [0xFF#8], isExact := false, time := 5 }] ∧
      ((after (.frameComplete .a 0 [] true) quiet).main.port .a).slots = [] ∧
      (full.portRuns .a = true ∧ ((after (.frameComplete .a 0 [true] true) full).main.port .a).counters.overrun = 1) ∧
      ({ quiet with main := { quiet.main with park := .parked } } : State).portRuns .b = false ∧
      ({ quiet with main := { quiet.main with
        cfg := { quiet.main.cfg with portB := { quiet.main.cfg.portB with enable := false } } } } : State).portRuns .b =
        false := by decide

/-- The bits of a byte leave most significant first (R1), and a partial byte carries none. -/
theorem test_pack_bits :
    packBits [true, false, false, true, false, true, true, false] = [0x96#8] ∧
      packBits (List.replicate 8 false ++ [true] ++ List.replicate 7 false ++ [true]) = [0x00#8, 0x80#8] := by decide

/-- A stop, a parking and a RESET end the frame in progress (R1, R5, R6): what is left of it is no frame when
frame-valid falls, and the next frame is stored again. -/
theorem test_frame_in_progress_is_discarded :
    let up := after (.frameComplete .a 0 [true] false) quiet
    let ends (t : State) : List Nat :=
      [t, after (.frameComplete .a 0 [true] true) t,
        after (.frameComplete .a 0 [true] true) (after (.frameComplete .a 0 [true] true) t)].map
        fun x => (x.main.port .a).slots.length
    ends (after .ignRisingEdge (after .ignFallingEdge up)) = [0, 0, 1] ∧ ends (after (.reset 14#4 .console) up) = [0, 0, 1] ∧
      ends (after (.startUp 1#4 [] true 12000) up) = [0, 0, 1] ∧ ends up = [0, 1, 2] := by decide

/-! ## Acceptance -/

/-- The ports' counters of `s`, port A. -/
def counts (s : State) : PortCounters := s.main.portA.counters

/-- Checks 1 to 3, with the frames of the short run of section 1.4 (14 bytes, a wrong check word, DIALS 9) and a
DIALS just below its range. -/
theorem test_take_judges_the_frame :
    (counts (after (.take .a) (withFrames [{ frame meterA 6 4217 72 0 with isExact := false }] quiet))) =
      { zeroCounters with malformedLength := 1 } ∧
    (counts (after (.take .a) (withFrames [frame meterA 6 4217 72 1] quiet))) =
      { zeroCounters with checkFailed := 1 } ∧
    (counts (after (.take .a) (withFrames [frame meterA 9 4217 72 0] quiet))) =
      { zeroCounters with malformed := 1 } ∧
    (counts (after (.take .a) (withFrames [frame meterA 3 217 72 0] quiet))) =
      { zeroCounters with malformed := 1 } := by decide

/-- A burst laid out by hand from the table of section 11.1, with every unread bit set; it has fifteen bytes. -/
theorem test_burst_positions :
    let bytes := [0x28#8, 0x00#8, 0xC3#8, 0x00#8, 0x42#8, 0x12#8, 0x60#8, 0x00#8, 0x10#8, 0x79#8, 0x48#8, 0xF3#8,
      0xF5#8, 0x12#8, 0x34#8]
    bytes.length = 15 ∧ decodeBurst bytes =
      { meter := 0x00C30042#32, version := 1, utility := 2, dials := 6, reading := 4217, counter := 72,
        resets := 3, flags := 0x15#5 } := by decide

theorem witness_first_failed_check_frames :
    (withFrames [frame meterA 6 4217 72 1] quiet).main.port .a = { freshPort with slots := [frame meterA 6 4217 72 1] } ∧
      burstCheckOk (frame meterA 6 4217 72 1).bytes = false ∧
      burstCheckOk (frame meterA 9 4217 72 0).bytes = true ∧
      ¬ (decodeBurst (frame meterA 9 4217 72 0).bytes).WellFormed ∧
      ¬ (decodeBurst (frame meterA 4 10000 72 0).bytes).WellFormed ∧
      (decodeBurst (frame meterA 4 9999 72 0).bytes).WellFormed ∧
      ¬ (decodeBurst (frame 0#32 4 9999 72 0).bytes).WellFormed := by
  unfold Burst.WellFormed
  decide

/-- The prefix of the example under R12: meter 3A10C2F4h passes FF000000h/3A000000h and 3B10C2F4h is FILTERED. -/
theorem witness_filter :
    let c : Settings := { defaultSettings with prefixMask := 0xFF000000#32, prefixValue := 0x3A000000#32 }
    passesFilter c (decodeBurst (frame 0x3A10C2F4#32 6 5 1 0).bytes) ∧
      ¬ passesFilter c (decodeBurst (frame 0x3B10C2F4#32 6 5 1 0).bytes) := by
  unfold passesFilter
  decide

theorem witness_sag_closing_stray_drops :
    (counts (after (.take .a) (withFrames [frame meterA 6 4217 72 0] (after (.enterSag 9499) quiet)))) =
      { zeroCounters with sagDropped := 1 } ∧
    (counts (after (.take .a) (withFrames [frame meterA 6 4217 72 0] (onRoute .closing [] quiet)))) =
      { zeroCounters with closingDropped := 1 } ∧
    (counts (after (.take .a) (withFrames [frame meterA 6 4217 72 0] quiet))) =
      { zeroCounters with strayDropped := 1 } := by decide

/-- A table of 192 contacts that hold on. -/
def fullTable : List Contact := (List.range 192).map fun i => contact (BitVec.ofNat 32 (i + 1)) .listening

theorem witness_refused_full :
    fullTable.length = 192 ∧ (∀ c ∈ fullTable, c.meter ≠ meterA ∧ c.isCeded = false) ∧
      (counts (after (.take .a) (withFrames [frame meterA 6 4217 72 0] (withContacts fullTable (capturing quiet))))) =
        { zeroCounters with refusedFull := 1 } := by decide +kernel

/-- The rows of the counter test of section 1.4 that lie at its limits: (1 − 254) mod 256 = 3, 127 the last normal
step, 128 the first SPLIT step, and 0 with the same content. -/
theorem test_counter_test_at_its_limits :
    let ring (c : Nat) : List RingEntry := [{ time := 0, counter := c, reading := 4217, flags := 0 }]
    counterTest (ring 254) (decodeBurst (frame meterA 6 4218 1 0).bytes) = (.accepted, false) ∧
      counterTest (ring 10) (decodeBurst (frame meterA 6 4218 137 0).bytes) = (.accepted, false) ∧
      counterTest (ring 10) (decodeBurst (frame meterA 6 4218 138 0).bytes) = (.accepted, true) ∧
      counterTest (ring 5) (decodeBurst (frame meterA 6 4218 5 0).bytes) = (.accepted, true) ∧
      counterTest (ring 5) (decodeBurst (frame meterA 6 4217 5 0).bytes) = (.duplicate, false) := by decide

theorem witness_duplicate :
    let s := withFrames [frame meterA 6 100 71 0] (withContacts [contact meterA .listening] (capturing quiet))
    s.PassesEarlyChecks (frame meterA 6 100 71 0) ∧ s.contactOf meterA = some (contact meterA .listening) ∧
      (decodeBurst (frame meterA 6 100 71 0).bytes).meter = meterA ∧
      (counts (after (.take .a) s)).duplicate = 1 := by
  refine ⟨⟨by decide, by decide, ?_, ?_, by decide, by decide, Or.inr (by decide)⟩, by decide, by decide, by decide⟩
  · unfold Burst.WellFormed
    decide
  · unfold passesFilter
    decide

/-- At a HELD contact the open record takes the quality of a louder duplicate, and nothing else of it moves (R38). -/
theorem witness_duplicate_at_held :
    let c : Contact := { contact meterA (.held 9) with bestQuality := 12 }
    let s := withFrames [frame meterA 6 100 71 0] (withContacts [c] (capturing
      (withLog [record 9 meterA .opened .unsent .none 0] 10 quiet)))
    s.contactOf meterA = some c ∧
      ((after (.take .a) s).ret.log.filterMap Record.readFields).map (fun f => (f.quality, f.arrivals, f.reading)) =
        [(40, 1, 100)] := by decide

theorem witness_first_stray :
    let s := withFrames [frame meterA 6 100 71 0] (capturing quiet)
    s.PassesEarlyChecks (frame meterA 6 100 71 0) ∧ s.main.contacts.length < 192 ∧ 1 ≤ s.main.cfg.limit ∧
      s.main.cfg.holdOff ≠ 0 ∧ (after (.take .a) s).main.contacts.map Contact.meter = [meterA] := by
  refine ⟨⟨by decide, by decide, ?_, ?_, by decide, by decide, Or.inr (by decide)⟩, by decide⟩
  · unfold Burst.WellFormed
    decide
  · unfold passesFilter
    decide

/-- The rows of R25 for an on-route meter, and hold-off 0, with which the contact makes its claim attempt at once. -/
theorem witness_first_on_route :
    let s (x : EntryState) := withFrames [frame meterA 6 100 71 0] (onRoute .running [entry 0 meterA x] quiet)
    let first (t : State) : List (ContactState × Bool × Bool) :=
      (after (.take .a) t).main.contacts.map fun c => (c.state, c.stray, c.reread)
    let eager (t : State) : State := { t with main := { t.main with cfg := { t.main.cfg with holdOff := 0 } } }
    (s .readHere).ret.entryOf meterA = some (entry 0 meterA .readHere) ∧
      first (s .readHere) = [(.listening, false, true)] ∧
      first (after (.status 2#4 .collector) (s (.readPeer 2 44))) =
        [(.ceded { station := 2, quality := 44, hold := .held }, false, false)] ∧
      first (s (.readPeer 2 44)) = [(.listening, false, false)] ∧ first (s .due) = [(.listening, false, false)] ∧
      first (eager (s .due)) = [(.claiming, false, false)] ∧ first (eager (s .readHere)) = [(.held 1, false, true)] := by
  decide

/-- A full table with one CEDED contact makes room by its eviction (R24). -/
theorem witness_first_evicts :
    let ceded := contact 192#32 (.ceded { station := 2, quality := 1, hold := .held })
    let s := withFrames [frame meterA 6 100 71 0] (withContacts (fullTable.take 191 ++ [ceded]) (capturing quiet))
    s.main.contacts.length = 192 ∧ evictionVictim s.main.contacts = some ceded ∧
      (after (.take .a) s).main.contacts.length = 192 ∧ (after (.take .a) s).contactOf 192#32 = none := by decide +kernel

/-- A counted arrival at contacts that hold no record: one that is eligible makes its claim attempt, one that becomes
eligible at its second arrival does so then, and one without an arrival yet waits out its hold-off (R34, R35). -/
theorem witness_counted_elsewhere :
    let s (c : Contact) := withFrames [frame meterA 6 101 72 0] (withContacts [c] (capturing quiet))
    let states (c : Contact) : List (ContactState × Bool × Nat) :=
      (after (.take .a) (s c)).main.contacts.map fun x => (x.state, x.eligible, x.arrivals)
    states (contact meterA .listening) = [(.claiming, true, 2)] ∧ states (listener meterA) = [(.claiming, true, 2)] ∧
      states { listener meterA with arrivals := 0 } = [(.listening, false, 1)] ∧
      states (contact meterA (.ceded { station := 2, quality := 1, hold := .held })) =
        [(.ceded { station := 2, quality := 1, hold := .held }, true, 2)] := by decide

/-- The clone of section 3.6 at its second row: HELD, Z and the newest reading 4,219, then 3,900. -/
def clone : State :=
  withFrames [frame meterA 6 3900 72 0]
    (withContacts [{ contact meterA (.held 512) with
        ring := [{ time := 0, counter := 71, reading := 4219, flags := 0 }] }]
      (withLog [record 512 meterA .opened .unsent .none 0] 513
        (onRoute .running [{ entry 0 meterA .readHere with z := some 4219 }] quiet)))

theorem witness_counted_arrival :
    clone.PassesEarlyChecks (frame meterA 6 3900 72 0) ∧ clone.ret.LogInOrder ∧
      (clone.contactOf meterA).map Contact.state = some (.held 512) ∧
      (72 + 256 - 71) % 256 = 1 ∧ (clone.ret.recordOf 512).isSome = true ∧
      clone.ret.entryOf meterA = some { entry 0 meterA .readHere with z := some 4219 } := by
  refine ⟨⟨by decide, by decide, ?_, ?_, by decide, by decide, Or.inl ⟨by decide, ?_⟩⟩, ?_, by decide⟩
  · unfold Burst.WellFormed
    decide
  · unfold passesFilter
    decide
  · exact ⟨_, List.mem_singleton.mpr rfl, by decide⟩
  · unfold Retained.LogInOrder
    decide

/-- A stray HELD since before the route was RUNNING, its meter's entry stored late. -/
def lateStray : State :=
  { clone with main := { clone.main with contacts := clone.main.contacts.map fun c => { c with stray := true } } }

/-- At a HELD stray the record follows with the stray treatment's SPLIT and no measures, the late entry takes Z and
the finding, and outside RUNNING the entry stays; the contact takes the burst in every case. -/
theorem witness_counted_at_held_stray :
    let loading := capturing { lateStray with ret := { lateStray.ret with routeState := .loading } }
    let seen (s : State) : List (Option Nat × FindingSet) := s.ret.entries.map fun e => (e.z, e.findings)
    let fields (s : State) : List (Nat × Option Measures × FindingSet) :=
      (s.ret.log.filterMap Record.readFields).map fun f => (f.reading, f.measures, f.findings)
    (lateStray.contactOf meterA).map (fun c => (c.state, c.stray)) = some (.held 512, true) ∧
      fields (after (.take .a) lateStray) = [(3900, none, Finding.only .split)] ∧
      fields (after (.take .a) loading) = [(3900, none, Finding.only .split)] ∧
      seen (after (.take .a) lateStray) = [(some 3900, Finding.only .split)] ∧ seen (after (.take .a) loading) = [(some 4219, 0)] ∧
      ∀ s ∈ [lateStray, loading, clone], (after (.take .a) s).main.contacts.map (fun c => (c.reading, c.arrivals, c.ring.length)) =
        [(3900, 2, 2)] := by decide

/-- That row raises SPLIT, and with it the alert, on the open record; Z becomes 3,900. -/
theorem test_clone_row_two :
    (after (.take .a) clone).ret.log.map Record.alert = [.pending] ∧
      (after (.take .a) clone).ret.entries.map RouteEntry.z = [some 3900] ∧
      (after (.take .a) clone).ret.entries.map RouteEntry.findings = [Finding.only .split] := by decide

/-- The table of eviction in section 2.7: of the two earliest the lower METER-ID goes. -/
theorem witness_eviction :
    let ceded (m : MeterId) (t : Nat) : Contact :=
      { contact m (.ceded { station := 2, quality := 1, hold := .held }) with lastArrival := t }
    evictionVictim [ceded 0x00A10004#32 812400, ceded 0x00A10009#32 806100, ceded 0x00A1000C#32 806100,
      contact 1#32 .listening] = some (ceded 0x00A10009#32 806100) ∧
      evictionVictim [contact 1#32 .listening] = none := by decide

/-- Chatter at 9.6 s in section 2.7: five entries within 10 s and the arrival make 6, above the limit 5; alone
every 4.5 s the count stays 3. -/
theorem test_chatter_count :
    let at' (ts : List Nat) : List RingEntry := ts.map fun t => { time := t, counter := 0, reading := 0, flags := 0 }
    chatterCount (at' [0, 1900, 4500, 6300, 9000]) 9600 10 = 6 ∧
      chatterCount (at' [0, 1900, 4500, 6300]) 9000 10 = 5 ∧
      chatterCount (at' [0, 4500, 9000, 13500]) 18000 10 = 3 := by decide

/-! ## Evaluation: the worked cases and limits of section 3.6 -/

/-- Inputs with Dr = D and no reference but the bill. -/
def billed (d p n a rt c b : Nat) : EvalInput :=
  { n := n, d := d, k := 0, p := p, dr := d, a := a, c := c, b := b, kr := none, z := none, v := none, t := rt,
    s := 0 }

/-- The five cases of the design, a to e. -/
theorem test_five_cases :
    evalFull (billed 6 998250 1430 43200 5430 12 0) =
      { findings := 0, direction := some .forward, measures := some { advance := 3180, rate := 4 } } ∧
    evalFull (billed 6 512000 498700 0 0 0 20) =
      { findings := Finding.only .rollback, direction := some .backward,
        measures := some { advance := -13300, rate := 0 } } ∧
    evalFull (billed 4 9990 9985 0 0 0 8) =
      { findings := 0, direction := some .jitter, measures := some { advance := 0, rate := 0 } } ∧
    evalFull (billed 5 40000 41500 60 600 500 0) =
      { findings := Finding.only .excess, direction := some .forward,
        measures := some { advance := 1500, rate := 1285 } } ∧
    evalFull (billed 5 20000 20250 0 45 0 0) =
      { findings := 0, direction := some .forward, measures := some { advance := 250, rate := 15000 } } := by
  decide

/-- A witness for each clause of AdvanceAndDirectionByBackwardWindow at its limit: Δ = 0, Δ = 8,999, Δ = 9,000
with B = 1,000 and 999, and m = 8 and 9 beside B = 8 (the limits of section 3.6). -/
theorem witness_advance_limits :
    (evalFull (billed 4 100 100 0 0 0 8)).direction = some .zero ∧
      (evalFull (billed 4 0 8999 0 0 0 8)).measures.map Measures.advance = some 8999 ∧
      (evalFull (billed 4 0 9000 0 0 0 1000)).direction = some .jitter ∧
      (evalFull (billed 4 0 9000 0 0 0 999)).measures.map Measures.advance = some (-1000) ∧
      (evalFull (billed 4 9990 9982 0 0 0 8)).direction = some .jitter ∧
      (evalFull (billed 4 9990 9981 0 0 0 8)).measures.map Measures.advance = some (-9) := by decide

/-- The rates of the limits table, and EXCESS and STALL at and beside their limits. -/
theorem witness_rate_limits :
    rateOf 1092 1 .forward = 65520 ∧ rateOf 1093 1 .forward = 65535 ∧ rateOf 89999999 0 .forward = 65535 ∧
      rateOf 89999999 1048575 .forward = 5149 ∧ rateOf 7 43290 .forward = 0 ∧ exceeds 12 12 = false ∧
      exceeds 12 13 = true ∧ stalls 10080 10080 .zero = true ∧ stalls 10080 10079 .zero = false := by decide

/-- Dial mismatch and restart: {DIALS, RESTART} with the measures absent. -/
theorem witness_dial_mismatch :
    evalFull { billed 5 512000 41500 0 0 12 20 with k := 3, dr := 6, kr := some 2 } =
      { findings := Finding.only .dials ||| Finding.only .restart, direction := none, measures := none } := by decide

/-- A reread meter against Z, and the reference of a larger dial count under R53. -/
theorem witness_split_against_z :
    evalAgainst 51290 5 20 (some 51300) = 0 ∧ evalAgainst 50100 5 20 (some 51300) = Finding.only .split ∧
      evalAgainst 41500 5 0 (some 998900) = 0 ∧ evalAgainst 41500 5 0 none = 0 := by decide

/-- The stray of section 3.6: 6,900 and 6,899 raise SPLIT, 6,901 nothing. -/
theorem test_stray_continuity :
    (evalStray 6900 4 0 (some 7040)).findings = Finding.only .split ∧
      (evalStray 6901 4 0 (some 6900)).findings = 0 ∧
      (evalStray 6899 4 0 (some 6900)).findings = Finding.only .split := by decide

/-! ## Contacts -/

/-- A contact in each state at its idle expiry. -/
theorem witness_idle_expiry :
    let s (x : Contact) := withContacts [x] (withLog [record 9 1#32 .opened .unsent .none 0] 10 quiet)
    (after (.idleExpiry 1#32) (s (contact 1#32 .listening))).main.contacts = [] ∧
      (after (.idleExpiry 1#32)
        (s (contact 1#32 (.ceded { station := 2, quality := 0, hold := .claiming })))).main.contacts = [] ∧
      ((after (.idleExpiry 1#32) (s (contact 1#32 (.held 9)))).main.contacts = [] ∧
        (after (.idleExpiry 1#32) (s (contact 1#32 (.held 9)))).ret.log =
          [record 9 1#32 .closed .unsent .none 0]) ∧
      (after (.idleExpiry 1#32) (s (claimer 1#32))).main.contacts.map Contact.idlePending = [true] := by decide

/-- The hold-off expiry at each of its ends: without a sequence number left, with a better claimant, in MUTE, with
a place in the queue, and with a full queue. -/
theorem witness_hold_off_expiry :
    let s := withContacts [listener meterA] (onRoute .running [entry 0 meterA .due] quiet)
    let states (t : State) : List ContactState := t.main.contacts.map Contact.state
    (s.contactOf meterA = some (listener meterA) ∧ (listener meterA).holdOff = some 800 ∧ s.ret.room = true) ∧
      ((withLog [] 4294967295 s).ret.room = false ∧
        (after (.holdOffExpiry meterA) (withLog [] 4294967295 s)).main.contacts.map Contact.noroom = [true]) ∧
      states (after (.holdOffExpiry meterA)
          (withContacts [listener meterA] (onRoute .running [entry 0 meterA (.peerClaiming 2 38)] quiet))) =
        [.ceded { station := 2, quality := 38, hold := .claiming }] ∧
      states (after (.holdOffExpiry meterA) { s with main := { s.main with mute := true } }) = [.held 1] ∧
      states (after (.holdOffExpiry meterA) s) = [.claiming] ∧
      states (after (.holdOffExpiry meterA) (withLink fullQueue none s)) = [.listening] ∧
      (let ceded := { listener meterA with state := .ceded { station := 2, quality := 38, hold := .claiming } }
      (after (.holdOffExpiry meterA) (withContacts [ceded] s)).main.contacts.map (fun c => (c.state, c.eligible)) =
        [(ceded.state, true)]) := by decide

/-- "Room at the edge of a full log" (section 8.7), by the last sequence numbers: with one number beside the
reservation the settle enters HELD, and with none it yields. -/
theorem witness_settle_expiry :
    let s (n : Nat) := withContacts [claimer meterA] (withLog [] n (onRoute .running [entry 0 meterA .due] quiet))
    let idle (t : State) : State := withContacts [{ claimer meterA with idlePending := true, idle := none }] t
    ((s 4294967294).ret.room = true ∧ (s 4294967295).ret.room = false) ∧
      (after (.settleExpiry meterA) (s 4294967294)).main.contacts.map Contact.state = [.held 4294967294] ∧
      (after (.settleExpiry meterA) (s 4294967295)).main.contacts.map Contact.state = [.listening] ∧
      (after (.settleExpiry meterA) (s 4294967295)).main.queue = [yieldPost meterA] ∧
      (after (.settleExpiry meterA) (idle (s 4294967294))).main.contacts = [] ∧
      (after (.settleExpiry meterA) (idle (s 4294967295))).main.contacts = [] := by decide

/-- The times of "A held contact's record across three arrivals" (section 2.7). -/
theorem test_heard_seconds :
    let r : Retained := { clearedRetained true with stationClock := 2416900, routeClock := 416 }
    r.heardSeconds 28 2410200 = 410 ∧ r.heardSeconds 28 2414700 = 414 ∧ r.heardSeconds 0 2414700 = 2414 := by decide

theorem witness_entering_held : State.reset.ret.LogInOrder := by
  unfold Retained.LogInOrder
  decide

/-! ## Alerts -/

/-- The rows of the raising test (section 4.9). -/
theorem test_raising :
    qualifies (Finding.only .lowbat) 1 true = false ∧ qualifies (Finding.only .leak) 2 false = false ∧
      qualifies (Finding.only .leak) 2 true = true ∧ qualifies (Finding.only .leak) 1 false = true ∧
      qualifies (Finding.only .chatter ||| Finding.only .stall) 2 false = true ∧
      qualifies (Finding.only .chatter) 3 false = false ∧
      qualifies (Finding.only .chatter ||| Finding.only .split) 3 false = true ∧
      qualifies 0 1 true = false := by decide

/-- Slots 0 and 2 full, 112 and 115 PENDING: the older record takes slot 1 with one place left in the queue. -/
def alerting : State :=
  withLog [record 101 1#32 .closed .unsent .slotted 1, record 107 2#32 .closed .unsent .slotted 1,
      record 112 3#32 .closed .unsent .pending (Finding.only .rollback),
      record 115 4#32 .closed .unsent .pending (Finding.only .mag)] 116
    { quiet with main := { quiet.main with slots := { emptySlots with s0 := some 101, s2 := some 107 } } }

theorem witness_promotion :
    (alerting.main.slots.get 1 = none ∧ (∀ j, j < (1 : Fin 4) → alerting.main.slots.get j ≠ none) ∧
        (withLink (fullQueue.take 15) none alerting).main.queue.length = 15) ∧
      (after .promotion (withLink (fullQueue.take 15) none alerting)).main.slots =
        { emptySlots with s0 := some 101, s1 := some 112, s2 := some 107 } ∧
      (after .promotion (withLink fullQueue none alerting)).main.slots = alerting.main.slots ∧
      (after .promotion { alerting with main := { alerting.main with mute := true } }).main.slots =
        alerting.main.slots ∧
      (∀ x ∈ quiet.ret.log, x.alert ≠ .pending) ∧
      (∀ i, ({ s0 := some 1, s1 := some 2, s2 := some 3, s3 := some 4 } : Slots).get i ≠ none) := by decide

/-- ALERT-ACK(2, 107) matches; repeated on another sequence or on slot 4 it is ignored. -/
theorem witness_alert_ack :
    alerting.TakesFrom 14#4 ∧ alerting.main.slots.get 2 = some 107 ∧
      (after (.alertAck 14#4 2#8 107#32) alerting).main.slots = { emptySlots with s0 := some 101 } ∧
      (after (.alertAck 14#4 2#8 107#32) alerting).ret.log.map Record.alert =
        [.slotted, .acked, .pending, .pending] ∧
      (after (.alertAck 14#4 2#8 108#32) alerting).main.slots = alerting.main.slots ∧
      (after (.alertAck 14#4 4#8 107#32) alerting).main.slots = alerting.main.slots := by
  unfold State.TakesFrom
  decide

/-! ## The Drive Link -/

/-- "A YIELD on the line" (section 11.2): the thirteen bytes station 3 drives, and that a receiver reads them. -/
theorem test_yield_on_the_line :
    postBytes 3 quiet.statusFields (yieldPost 0x00A10020#32) =
        [0x96#8, 0x31#8, 0x03#8, 0xFF#8, 0xFE#8, 0x00#8, 0x04#8, 0x00#8, 0xA1#8, 0x00#8, 0x20#8, 0xCE#8, 0x38#8] ∧
      parsePost [0x96#8, 0x31#8, 0x03#8, 0xFF#8, 0xFE#8, 0x00#8, 0x04#8, 0x00#8, 0xA1#8, 0x00#8, 0x20#8, 0xCE#8,
          0x38#8] =
        some { src := 3, role := some .collector, kind := some .yield, mask := 0xFFFE#16,
               body := [0x00#8, 0xA1#8, 0x00#8, 0x20#8] } := by decide

/-- The waits of R77: station 3 waits 88 µs after its first loss (section 5.7), and the wait comes round again with
the fifth. -/
theorem test_backoff_waits :
    waitUs 3 1 = 88 ∧ waitUs 1 1 = 56 ∧ waitUs 15 4 = 1048 ∧ waitUs 15 5 = 280 ∧ waitUs 3 0 = 40 := by decide

/-- Offers to a full queue: refused without a post to replace, taken with one (section 5.7). -/
theorem witness_offer :
    let s := withLink fullQueue none quiet
    let held := withLink (statusPost :: fullQueue.take 15) none quiet
    (s.offer (yieldPost meterA)).main.queue = s.main.queue ∧
      (held.offer statusPost).main.queue = fullQueue.take 15 ++ [statusPost] ∧
      ((withLink (fullQueue.take 15) none quiet).offer statusPost).main.queue.length = 16 := by decide

/-- The order of sending of "Queue order with replacement" (section 5.7): class 1 before class 4, the older
first. -/
theorem witness_queue_head :
    takeHead [statusPost, claimPost 1#32 34 .claiming, yieldPost 2#32] =
        some (claimPost 1#32 34 .claiming, [statusPost, yieldPost 2#32]) ∧
      takeHead [statusPost, yieldPost 2#32] = some (yieldPost 2#32, [statusPost]) ∧ takeHead [] = none := by decide

/-- The quiet times at which station 1 begins an attempt and just below. -/
theorem witness_attempt :
    (quiet.mayStart = true ∧ quiet.inAttempt = false) ∧
      ((after (.attempt 40) (withLink [statusPost] none quiet)).inAttempt = true ∧
        (after (.attempt 39) (withLink [statusPost] none quiet)).inAttempt = false) ∧
      (after (.attempt 40) (withLink [] (current statusPost 0 false false) quiet)).inAttempt = true ∧
      (after (.attempt 56) (withLink [] (current statusPost 1 false false) quiet)).inAttempt = true ∧
      (after (.attempt 55) (withLink [] (current statusPost 1 false false) quiet)).inAttempt = false := by decide

/-- A station that starts no post: without start-up, in SAG, PARKED, in the wake settle, and in MUTE. -/
theorem witness_attempt_not_allowed :
    let s := withLink [statusPost] none quiet
    (after (.attempt 40) { s with powered := false }).inAttempt = false ∧
      (after (.attempt 40) (after (.enterSag 9499) s)).inAttempt = false ∧
      (after (.attempt 40) (after .ignFallingEdge s)).inAttempt = false ∧
      (after (.attempt 40) (after (.wake 40) (after .ignFallingEdge s))).main.wakeSettle = some 2 ∧
      (after (.attempt 40) (after (.wake 40) (after .ignFallingEdge s))).inAttempt = false ∧
      (after (.attempt 40) { s with main := { s.main with mute := true } }).inAttempt = false := by decide

/-- A drain in SENDING whose one post is current. -/
def sending : Drain :=
  { state := .sending, dock := some 15, batch := [5], position := 0, post := .current, commitWait := none }

/-- A post of the drain to dock 15. -/
def drainPost (b : PostBody) : Post := { mask := 0x8000#16, body := b }

/-- Each kind of post as it is sent. -/
theorem witness_sent :
    let s (p : Post) (drop : Bool) (d : Drain) :=
      draining d (withLink [] (current p 0 true drop) (withLog [closedRecord 5] 6 quiet))
    let sent (p : Post) (drop : Bool) (d : Drain) : Drain := (after .postSent (s p drop d)).main.drain
    ((s (yieldPost 1#32) false idleDrain).main.current = current (yieldPost 1#32) 0 true false) ∧
      (after .postSent (s (yieldPost 1#32) false idleDrain)).main.current = none ∧
      (after .postSent (s statusPost false idleDrain)).main.sagSeen = false ∧
      (after .postSent (after (.enterSag 0) (s statusPost false idleDrain))).main.sagSeen = true ∧
      sent (drainPost (.record (closedRecord 5))) false sending =
        { sending with position := 1, post := .queued } ∧
      sent (drainPost (.batchEnd 0 none)) false sending = { sending with state := .idle, dock := none, post := .none } ∧
      sent (drainPost (.batchEnd 1 (some (5, 5)))) false sending =
        { sending with state := .awaitCommit, post := .none, commitWait := some 3000 } ∧
      sent (drainPost (.record (closedRecord 5))) true sending = { sending with post := .queued } ∧
      sent (drainPost (.record (closedRecord 5))) true { idleDrain with post := .current } = idleDrain := by decide

/-- The fifteenth loss keeps the post and the sixteenth discards it; a dropped post leaves at its first. -/
theorem witness_lost :
    let s (p : Post) (k : Nat) (drop : Bool) (d : Drain) :=
      draining d (withLink [] (current p k true drop) (withLog [{ closedRecord 5 with mark := .sentInBatch }] 6 quiet))
    (after .attemptLost (s statusPost 14 false idleDrain)).main.current = current statusPost 15 false false ∧
      ((after .attemptLost (s statusPost 15 false idleDrain)).main.current = none ∧
        (after .attemptLost (s statusPost 15 false idleDrain)).main.linkDrop = 1) ∧
      ((after .attemptLost (s (drainPost (.batchEnd 1 (some (5, 5)))) 15 false sending)).main.drain = idleDrain ∧
        (after .attemptLost (s (drainPost (.batchEnd 1 (some (5, 5)))) 15 false sending)).ret.log =
          [closedRecord 5]) ∧
      (after .attemptLost (s statusPost 3 true idleDrain)).main.linkDrop = 0 ∧
      (after .attemptLost (s (drainPost (.batchEnd 1 none)) 3 true { idleDrain with post := .current })).main.drain =
        idleDrain ∧
      (after .attemptLost (s (drainPost (.batchEnd 1 none)) 3 true sending)).main.drain.post = .queued := by decide

theorem witness_composed_post :
    (bodyBytes quiet.statusFields .status).length = 56 ∧
      parsePost (postBytes 15 quiet.statusFields statusPost) =
        some { src := 15, role := some .collector, kind := some .status, mask := 0xFFFE#16,
               body := bodyBytes quiet.statusFields .status } := by decide

/-- A valid addressed post of each kind from each role that R88 acts on, addressed to station 1. -/
theorem witness_addressed_posts :
    ∀ x ∈ ([(0xE2#8, 0x05#8, beBytes 5 0, .console, .alertAck), (0xE2#8, 0x10#8, beBytes 4 0, .console, .routeBegin),
          (0xE2#8, 0x11#8, beBytes 17 0, .console, .routeEntry), (0xE2#8, 0x11#8, beBytes 51 0, .console, .routeEntry),
          (0xE2#8, 0x12#8, [], .console, .routeGo), (0xE2#8, 0x13#8, [], .console, .routeClose),
          (0xE2#8, 0x20#8, [], .console, .park), (0xE2#8, 0x21#8, [], .console, .run),
          (0xF3#8, 0x40#8, [], .dock, .drainOpen), (0xF3#8, 0x43#8, beBytes 4 0, .dock, .commit),
          (0xF3#8, 0x44#8, [], .dock, .drainClose), (0xF3#8, 0x22#8, [], .dock, .reset),
          (0xE2#8, 0x30#8, [], .console, .configQuery), (0xF3#8, 0x32#8, [2#8], .dock, .countQuery)] :
        List (Byte × Byte × List Byte × Role × Kind)),
      (parsePost (post x.1 x.2.1 2 x.2.2.1)).map (fun h => (h.role, h.kind, h.body)) =
          some (some x.2.2.2.1, some x.2.2.2.2, x.2.2.1) ∧
        quiet.addressedBy 2#16 = true ∧ lengthAllowed x.2.2.2.2 x.2.2.1.length = true := by decide

/-- Two entries of a ROUTE-ENTRY laid out by hand from section 11.4: both options present with WATCH, and neither,
with every bit without a field set. -/
theorem test_route_entry_positions :
    let body :=
      [0x01#8, 0x02#8, 0x00#8, 0xC3#8, 0x00#8, 0x42#8, 0x60#8, 0x00#8, 0x0F#8, 0x0A#8, 0xE1#8, 0x23#8, 0x45#8, 0x00#8,
        0x0C#8, 0x14#8, 0x53#8] ++
      [0x00#8, 0x07#8, 0x00#8, 0x00#8, 0x00#8, 0x05#8, 0x40#8, 0x00#8, 0x00#8, 0x01#8, 0x10#8, 0x00#8, 0x02#8, 0x01#8,
        0x00#8, 0xFF#8, 0xFF#8]
    lengthAllowed .routeEntry body.length = true ∧ decodeEntries body =
      [{ index := 258, meter := 0x00C30042#32, dr := 6, p := 3850, a := 74565, c := 12, b := 20, kr := some 5
         hint := some 3, watch := true },
       { index := 7, meter := 5#32, dr := 4, p := 1, a := 2, c := 256, b := 255, kr := none, hint := none
         watch := false }] := by decide

/-- The line as the receiver follows it (R85): a post begun before the receiver was receptive, by a wake or by a stop
and a start, is not received and is not counted, and the next after a quiet gap is; so is the post that goes on after
a lost attempt. Activity that follows a post without a quiet gap is none. A heard stretch that a quiet gap ends is
counted beside the stretch after it (R86). -/
theorem test_posts_begun_unheard :
    let bad : Instr := .postReceived [0x96#8]
    let checks (s : State) : List Counter :=
      [after bad s, after bad (after bad s), after bad (after (.wake 40) s)].map fun x => x.main.linkCheck
    let begun := after (.wake 40) quiet
    let again := after .ignRisingEdge (after .ignFallingEdge begun)
    let lost := after .attemptLost (after (.attempt 40) (withLink [statusPost] none quiet))
    (begun.pins.line = .heard ∧ checks begun = [1, 2, 2]) ∧ checks again = [0, 1, 1] ∧
      checks (after .wakeSettleExpiry (after (.wake 40) (after .ignFallingEdge quiet))) = [0, 1, 1] ∧
      checks (after (.startUp 1#4 [] true 12000) (after (.wake 40) (after (.mainSupplyLoss 0) quiet))) = [0, 1, 1] ∧
      (lost.pins.line = .heard ∧ checks lost = [1, 2, 2]) ∧
      checks (after (.wake 39) (after bad quiet)) = [1, 2, 2] := by decide

/-- The line falling quiet for a quiet gap before CHECK (R86): a heard stretch counts once, at 40 µs and not at 39, told
by WAKE or by ATTEMPT, and also when the attempt begins; a missed one, and an attempt's own, do not count. -/
theorem test_quiet_gap_ends_stretch :
    let heard := after (.wake 40) quiet
    let missed := after (.wake 40) (after .ignFallingEdge quiet)
    let own := after (.attempt 40) (withLink [statusPost] none quiet)
    let counts (s : State) : List Counter :=
      [after (.wake 39) s, after (.wake 40) s, after (.attempt 39) s, after (.attempt 40) s,
        after (.attempt 40) (after (.attempt 40) s)].map fun x => x.main.linkCheck
    counts heard = [0, 1, 0, 1, 1] ∧ counts missed = [0, 0, 0, 0, 0] ∧ counts own = [0, 0, 0, 0, 0] ∧
      ((after (.attempt 40) (withLink [statusPost] none heard)).inAttempt = true ∧
        (after (.attempt 40) (withLink [statusPost] none heard)).main.linkCheck = 1) ∧
      (after (.attempt 40) heard).pins.line = .quiet ∧ (after (.attempt 39) heard).pins.line = .heard := by decide

/-- A stretch that is no post, one that names no role, one without a station number, and one of this station's own
number (section 5.7, clash detection). -/
theorem witness_receiver :
    (quiet.receives = true ∧ quiet.inAttempt = false ∧ parsePost [0x96#8] = none ∧ (after (.postReceived [0x96#8]) quiet).main.linkCheck = 1) ∧
      (parsePost (post 0x14#8 0x01#8 2 [])).map Heard.role = some none ∧
      (parsePost (post 0x01#8 0x01#8 2 [])).map Heard.src = some 0 ∧
      (after (.postReceived (post 0x11#8 0x01#8 2 [])) quiet).main.mute = true ∧
      ((after .ignFallingEdge quiet).receives = false ∧ (after .ignFallingEdge quiet).inAttempt = false) ∧
      (after (.attempt 40) State.reset).inAttempt = true ∧
      (after (.postReceived (post 0x11#8 0x01#8 2 [])) (after .ignFallingEdge quiet)).main.mute = false ∧
      (after (.run 14#4) (after .ignFallingEdge quiet)).main.park = .linkAwake := by decide

/-- Valid posts that R88 and R202 ignore, from station 14 as console: a kind that names none, a kind the part only
sends, a CLAIM from a console, a RUN for station 3, and a COMMIT's length in a ROUTE-GO. -/
theorem witness_ignored_posts :
    (∀ x ∈ ([(0x99#8, 2, []), (0x14#8, 2, beBytes 6 0), (0x02#8, 2, beBytes 6 0), (0x21#8, 8, []),
          (0x12#8, 2, beBytes 4 0)] : List (Byte × Nat × List Byte)),
        (parsePost (post 0xE2#8 x.1 x.2.1 x.2.2)).isSome = true ∧
          after (.postReceived (post 0xE2#8 x.1 x.2.1 x.2.2)) quiet = quiet.heardFrom 14 .console) ∧
      (parsePost (post 0xE2#8 0x99#8 2 [])).map Heard.kind = some none ∧
      quiet.addressedBy 8#16 = false ∧ lengthAllowed .routeGo 4 = false := by decide

/-- The four faults of R86, each in the YIELD of section 11.2. -/
theorem test_bad_posts :
    let good := post 0x31#8 0x03#8 0xFFFE [0x00#8, 0xA1#8, 0x00#8, 0x20#8]
    good.drop 11 = [0xCE#8, 0x38#8] ∧ (parsePost (0x97#8 :: good.drop 1)) = none ∧
      parsePost (post 0x31#8 0x03#8 0xFFFE (List.replicate 57 0#8)) = none ∧ parsePost (good.take 12) = none ∧
      parsePost (good.take 12 ++ [0x39#8]) = none := by decide

theorem witness_takes_from : quiet.TakesFrom 2#4 ∧ quiet.TakesFrom 15#4 := by
  unfold State.TakesFrom
  decide

theorem witness_status_timer :
    quiet.main.statusTimer = some 4000 ∧
      (after .statusTimerExpiry quiet).main.queue = [statusPost] ∧
      (after .statusTimerExpiry quiet).ret.stationClock = 4000 := by decide

/-- What a STATUS carries of the four records of `alerting`, with a RUNNING route of two entries (R91, section 11.4). -/
theorem witness_status_contents :
    let s := onRoute .running [entry 0 1#32 .readHere, entry 1 2#32 (.peerClaiming 2 44)] alerting
    let body := bodyBytes s.statusFields .status
    s.ret.LogInOrder ∧ (s.ret.recordOf 107).bind Record.meter = some 2#32 ∧
      (body.drop 8).take 8 = [0x00#8, 0x01#8, 0x00#8, 0x01#8, 0x00#8, 0x00#8, 0x00#8, 0x00#8] ∧
      (body.drop 16).take 8 = [0x00#8, 0x04#8, 0x00#8, 0x00#8, 0x00#8, 101#8, 0x00#8, 0x02#8] ∧
      (body.drop 40).take 8 = [0x00#8, 0x00#8, 0x00#8, 0x02#8, 0x00#8, 0x00#8, 0x00#8, 107#8] ∧
      (body.drop 48).take 8 = beBytes 8 0 := by
  refine ⟨?_, by decide⟩
  unfold Retained.LogInOrder
  decide

/-! ## Claims -/

/-- The race of section 6.8: (2, 41, C) beats (3, 41, C), and (1, 30, C) beats neither; a HELD claim beats both. -/
theorem witness_claims :
    let c (n q : Nat) (h : Hold) : Claim := { station := n, quality := q, hold := h }
    (c 2 41 .claiming).beats (c 3 41 .claiming) = true ∧ (c 3 41 .claiming).beats (c 2 41 .claiming) = false ∧
      (c 3 41 .claiming).beats (c 1 30 .claiming) = true ∧ (c 1 0 .held).beats (c 2 41 .claiming) = true ∧
      (EntryState.noteClaiming (c 3 41 .claiming) (.peerClaiming 1 30) = .peerClaiming 3 41) ∧
      EntryState.noteHeld (c 3 41 .held) (.readPeer 3 7) = .readPeer 3 41 := by decide

/-- Station 1, meter A at quality 37, with the contact `x` and the entry in state `e`. -/
def claimed (x : Contact) (e : EntryState) : State :=
  withContacts [x] (onRoute .running [entry 0 meterA e] quiet)

/-- The state of the one contact and of the one entry. -/
def standing (s : State) : List ContactState × List EntryState :=
  (s.main.contacts.map Contact.state, s.ret.entries.map RouteEntry.state)

/-- Claims at a LISTENING, a CLAIMING and a CEDED contact, one unit of quality beside this station's, and at a LISTENING
stray beside the READ-HERE entry that a closed route keeps. -/
theorem witness_claim_moves :
    let c (q : Nat) (h : Hold) : ContactState := .ceded { station := 2, quality := q, hold := h }
    standing (after (.claim 2#4 meterA 38#6 .claiming) (claimed (listener meterA) .due)) =
        ([c 38 .claiming], [.peerClaiming 2 38]) ∧
      standing (after (.claim 2#4 meterA 37#6 .claiming) (claimed (listener meterA) .due)) =
        ([.listening], [.peerClaiming 2 37]) ∧
      standing (after (.claim 2#4 meterA 0#6 .held) (claimed (listener meterA) .due)) =
        ([c 0 .held], [.readPeer 2 0]) ∧
      standing (after (.claim 2#4 meterA 38#6 .claiming) (claimed (claimer meterA) .due)) =
        ([c 38 .claiming], [.peerClaiming 2 38]) ∧
      (after (.claim 2#4 meterA 37#6 .claiming) (claimed (claimer meterA) .due)).main.queue =
        [claimPost meterA 37 .claiming] ∧
      standing (after (.claim 2#4 meterA 38#6 .claiming)
        (claimed { claimer meterA with idlePending := true, idle := none } .due)) = ([], [.peerClaiming 2 38]) ∧
      standing (after (.claim 2#4 meterA 5#6 .held) (claimed (contact meterA (c 38 .claiming)) (.peerClaiming 2 38))) =
        ([c 5 .held], [.readPeer 2 5]) ∧
      standing (after (.claim 2#4 meterA 5#6 .claiming) (claimed (contact meterA (c 38 .held)) (.readPeer 2 38))) =
        ([c 38 .held], [.readPeer 2 38]) ∧
      standing (after (.claim 2#4 meterA 38#6 .claiming)
        (withContacts [listener meterA] (onRoute .closed [entry 0 meterA .readHere] quiet))) =
        ([c 38 .claiming], [.readHere]) := by decide

/-- Station 1 holds the meter: a HELD contact, and the entry alone. -/
theorem witness_claim_answered :
    let held := withLog [record 512 meterA .opened .unsent .none 0] 513 (claimed (contact meterA (.held 512)) .readHere)
    let alone := onRoute .running [entry 0 meterA .readHere] quiet
    (held.contactOf meterA = some (contact meterA (.held 512)) ∧ validMeter meterA = true) ∧
      (after (.claim 2#4 meterA 63#6 .claiming) held).main.queue = [claimPost meterA 37 .held] ∧
      (after (.claim 2#4 meterA 63#6 .held) held).ret.entries.map RouteEntry.double = [true] ∧
      ((after (.claim 2#4 meterA 63#6 .held) held).ret.log.filterMap Record.readFields).map
        (fun f => f.marks.double) = [true] ∧
      (alone.contactOf meterA = none ∧ alone.ret.entryOf meterA = some (entry 0 meterA .readHere)) ∧
      (after (.claim 2#4 meterA 63#6 .claiming) alone).main.queue = [claimPost meterA 0 .held] ∧
      standing (after (.claim 2#4 meterA 0#6 .held) (onRoute .running [entry 0 meterA .due] quiet)) =
        ([], [.readPeer 2 0]) ∧
      standing (after (.claim 2#4 meterA 0#6 .held) (onRoute .closing [entry 0 meterA .due] quiet)) = ([], [.due]) ∧
      standing (after (.claim 2#4 0#32 0#6 .held) (onRoute .running [entry 0 meterA .due] quiet)) = ([], [.due]) := by
  decide

/-- "A yield and a silent peer" (section 6.8), with the entry of a station not named left alone. -/
theorem witness_yield_and_silence :
    let c (n : Nat) (h : Hold) : ContactState := .ceded { station := n, quality := 44, hold := h }
    standing (after (.yield 2#4 meterA) (claimed (contact meterA (c 2 .claiming)) (.peerClaiming 2 44))) =
        ([.listening], [.due]) ∧
      standing (after (.yield 3#4 meterA) (claimed (contact meterA (c 2 .claiming)) (.peerClaiming 2 44))) =
        ([c 2 .claiming], [.peerClaiming 2 44]) ∧
      standing (after (.yield 2#4 meterA) (claimed (contact meterA (c 2 .held)) (.readPeer 2 44))) =
        ([c 2 .held], [.readPeer 2 44]) ∧
      standing (after (.yield 2#4 meterA) (claimed (contact meterA (.held 1)) .readHere)) = ([.held 1], [.readHere]) ∧
      standing (after (.yield 2#4 meterA) (claimed (listener meterA) (.peerClaiming 2 44))) = ([.listening], [.due]) ∧
      standing (after (.yield 2#4 meterA) (onRoute .closing [entry 0 meterA (.peerClaiming 2 44)] quiet)) =
        ([], [.peerClaiming 2 44]) ∧
      (after (.yield 2#4 0#32) quiet = quiet.heardFrom 2 .collector ∧
        after (.yield 2#4 0xFFFFFFFF#32) quiet = quiet.heardFrom 2 .collector) ∧
      standing (after (.silence 2#4) (claimed (contact meterA (c 2 .claiming)) (.peerClaiming 2 44))) =
        ([.listening], [.due]) ∧
      standing (after (.silence 2#4) (claimed (contact meterA (c 2 .held)) (.readPeer 2 44))) =
        ([c 2 .held], [.readPeer 2 44]) := by decide

theorem witness_silence_position :
    ∃ after', quiet.main.peers =
        [{ station := 1, presence := .absent, role := none, silence := none }] ++
          { station := 2, presence := .absent, role := none, silence := some 12000 } :: after' ∧
      ∀ x ∈ after', x.station ≠ (2#4 : BitVec 4).toNat :=
  ⟨quiet.main.peers.drop 2, by decide, by decide⟩

/-! ## The route -/

/-- The console's posts of "A load with a duplicate, an overwrite and a gap" (section 7.7) at the limits of
ROUTE-BEGIN: occupancy 4095 and 4096, a route number 0, a count 0, and the counts 2048 and 2049. -/
theorem witness_route_begin :
    let s := onRoute .closed [] quiet
    let log (n : Nat) (t : State) : State := withLog (List.replicate n (closedRecord 5)) 6 t
    (s.TakesFrom 14#4 ∧ (log 4095 s).ret.log.length = 4095) ∧
      (after (.routeBegin 14#4 27#16 6#16) (log 4095 s)).ret.routeState = .loading ∧
      ((after (.routeBegin 14#4 27#16 6#16) (log 4096 s)).ret.routeState = .closed ∧
        (after (.routeBegin 14#4 27#16 6#16) (log 4096 s)).main.routeRefused = 1) ∧
      (after (.routeBegin 14#4 0#16 6#16) s).ret = s.ret ∧ (after (.routeBegin 14#4 27#16 0#16) s).ret = s.ret ∧
      ((after (.routeBegin 14#4 27#16 2048#16) s).ret.trunc = false ∧
        (after (.routeBegin 14#4 27#16 2049#16) s).ret.trunc = true ∧
        (after (.routeBegin 14#4 27#16 2049#16) s).ret.clampedCount = 2048) ∧
      (after (.routeBegin 14#4 28#16 6#16) (onRoute .running [] quiet)).main.routeRefused = 1 ∧
      (after (.routeBegin 14#4 28#16 6#16) (onRoute .loading [] quiet)).main.queue = [] := by
  refine ⟨⟨?_, by decide +kernel⟩, by decide +kernel⟩
  unfold State.TakesFrom
  decide +kernel

/-- The fields of an entry for index `i`. -/
def fields (i : Nat) (m : MeterId) (d p : Nat) : EntryFields :=
  { index := BitVec.ofNat 16 i, meter := m, dr := BitVec.ofNat 4 d, p := BitVec.ofNat 28 p, a := 0, c := 0, b := 20,
    kr := none, hint := none, watch := false }

/-- The outcomes of section 7.7's entries: refused by test 6, by test 2, overwritten in LOADING, refused by test
5 in RUNNING, and the limits of DR and P. -/
theorem witness_route_entries :
    let s := onRoute .loading [entry 0 meterA .due] quiet
    (s.takeEntry (fields 1 meterA 4 0)).main.routeDup = 1 ∧
      (s.takeEntry (fields 2 5#32 4 0)).ret.entries = s.ret.entries ∧
      (s.takeEntry (fields 0 5#32 4 9999)).ret.entries.map RouteEntry.meter = [5#32] ∧
      (s.takeEntry (fields 1 5#32 4 10000)).ret.entries = s.ret.entries ∧
      (s.takeEntry (fields 1 5#32 8 0)).ret.entries.map RouteEntry.index = [0, 1] ∧
      (s.takeEntry (fields 1 5#32 9 0)).ret.entries = s.ret.entries ∧
      ((onRoute .running [entry 0 meterA .due] quiet).takeEntry (fields 0 5#32 4 0)).ret.entries = s.ret.entries ∧
      ((onRoute .closing [entry 0 meterA .due] quiet).takeEntry (fields 1 5#32 4 0)).ret.entries = s.ret.entries := by
  decide

/-- What an entry takes from the contact of its meter, for each contact state. -/
theorem witness_entry_meets_contact :
    let r := (withLog [record 9 meterA .opened .unsent .none 32] 10 quiet).ret
    let e := entry 0 meterA .due
    let c (h : Hold) : Contact := contact meterA (.ceded { station := 2, quality := 44, hold := h })
    meetAmong r [contact 1#32 (.held 9)] e = e ∧ meetAmong r [listener meterA] e = e ∧
      meetAmong r [claimer meterA] e = e ∧
      meetAmong r [c .held] e = { e with state := .readPeer 2 44 } ∧
      meetAmong r [c .claiming] e = { e with state := .peerClaiming 2 44 } ∧
      meetAmong r [contact meterA (.held 9)] e = { e with state := .readHere, z := some 100, findings := 32 } := by
  decide

/-- The ROUTE-GAP to the console, and none where every index is filled; a ROUTE-CLOSE that is ignored, and one that
clears two contacts. -/
theorem witness_route_go_and_close :
    (after (.routeGo 14#4) (onRoute .loading [entry 0 meterA .due] quiet)).main.queue =
        [{ mask := 0x4000#16, body := .routeGap 28 1 [1] }, statusPost] ∧
      (after (.routeGo 14#4) (onRoute .loading [entry 0 meterA .due, entry 1 5#32 .due] quiet)).main.queue =
        [statusPost] ∧
      (after (.routeGo 14#4) (onRoute .running [] quiet)).main.queue = [] ∧
      (after (.routeClose 14#4) (onRoute .loading [] quiet)).main.queue = [] ∧
      ((after (.routeClose 14#4) (withLink [claimPost 5#32 37 .claiming] none
          (withContacts [contact meterA (.held 9), claimer 5#32]
            (withLog [record 9 meterA .opened .unsent .none 0] 10 (onRoute .running [] quiet))))).main.queue =
          [statusPost] ∧
        (after (.routeClose 14#4) (withContacts [contact meterA (.held 9), claimer 5#32]
            (withLog [record 9 meterA .opened .unsent .none 0] 10 (onRoute .running [] quiet)))).ret.log =
          [record 9 meterA .closed .unsent .none 0]) := by decide

/-- A walk at index 0 of two, with the entry `e` there, sector 0, and the next sequence `n`. -/
def walking (e : RouteEntry) (n : Nat) : State := withLog [] n (onRoute .closing [e] quiet)

/-- The step at an empty index, at an entry that is READ-HERE, at another station's entry (HINT 1 beside sector
0), and at this station's own with one sequence number left beside the reservation and with none. -/
theorem witness_walk_step :
    let due (h : Nat) : RouteEntry := { entry 0 meterA .due with hint := some h }
    let missed (t : State) : List Bool := t.ret.entries.map RouteEntry.isMissed
    (after .walkStep (walking (entry 1 meterA .due) 5)).main.walk = 1 ∧
      (missed (after .walkStep (walking (entry 0 meterA .readHere) 5)) = [false]) ∧
      (missed (after .walkStep (walking (due 1) 5)) = [true] ∧
        (after .walkStep (walking (due 1) 5)).ret.log = []) ∧
      ((after .walkStep (walking (due 0) 4294967294)).ret.listed = 1 ∧
        (after .walkStep (walking (due 0) 4294967294)).ret.log.map Record.seq = [4294967294]) ∧
      ((after .walkStep (walking (due 0) 4294967295)).ret.unlisted = 1 ∧
        (after .walkStep (walking (due 0) 4294967295)).ret.log = []) := by decide

/-- The end of the walk takes the reserved sequence number FFFFFFFFh, and does without one beyond it. -/
theorem witness_last_walk_step :
    let s (n : Nat) : State :=
      let t := walking (entry 1 meterA .readHere) n
      { t with main := { t.main with walk := 1 } }
    (s 5).ret.clampedCount = (s 5).main.walk + 1 ∧
      (after .walkStep (s 4294967295)).ret.log.map Record.seq = [4294967295] ∧
      (after .walkStep (s 4294967295)).ret.reserved = false ∧
      (after .walkStep (s 4294967296)).ret.log = [] ∧
      (after .walkStep (s 4294967296)).ret.routeState = .closed := by decide

/-! ## Depot upload -/

/-- The log of "Out-of-order release" (section 8.7) with its batch: 203 and 206 OPEN. -/
def outOfOrder : List Record :=
  [200, 201, 202, 203, 204, 205, 206, 207].map fun q =>
    if q = 203 ∨ q = 206 then record q 1#32 .opened .unsent .none 0
    else { closedRecord q with mark := .sentInBatch }

/-- A drain that awaits the COMMIT of that log's batch. -/
def awaiting : Drain :=
  { state := .awaitCommit, dock := some 15, batch := [200, 201, 202, 204, 205, 207], position := 6, post := .none,
    commitWait := some 3000 }

/-- A drain opened on an empty log and on one of 17 closed records, with one place in the queue and with none. -/
theorem witness_drain_open :
    let s (l : List Record) := withLink (fullQueue.take 15) none (withLog l 100 quiet)
    (quiet.main.drain.state = .idle ∧ quiet.main.drain.post = .none ∧ (s []).main.queue.length = 15) ∧
      (after (.drainOpen 15#4) (s [])).main.queue.getLast? = some (drainPost (.batchEnd 0 none)) ∧
      (after (.drainOpen 15#4) (s ((List.range 17).map closedRecord))).main.drain.batch = List.range 16 ∧
      (after (.drainOpen 15#4) (withLink fullQueue none (s []))).main.drain.post = .waiting := by decide

/-- A DRAIN-OPEN in SENDING, from another dock (R167): the post QUEUED or CURRENT between attempts is withdrawn, the
batch starts again from the oldest record, and its posts are addressed to the new dock. While an attempt of the cleared
batch's post runs, the batch formed meanwhile offers nothing (R169). -/
theorem witness_drain_open_again :
    let rec5 : Record := { closedRecord 5 with mark := .sentInBatch }
    let mine := drainPost (.record rec5)
    let s (q : List Post) (c : Option Current) (p : DrainPost) :=
      draining { sending with post := p } (withLink q c (withLog [rec5] 6 quiet))
    let opened (t : State) : List Post × Option Current × DrainPost :=
      let u := after (.drainOpen 3#4) t
      (u.main.queue, u.main.current, u.main.drain.post)
    let again : Post := { mask := 8#16, body := .record rec5 }
    (s [mine] none .queued).ret.LogInOrder ∧ opened (s [mine] none .queued) = ([again], none, .queued) ∧
      opened (s [] (current mine 2 false false) .current) = ([again], none, .queued) ∧
      (let t := (s [] (current mine 2 true false) .current).clearBatch.formBatch
      t.main.current = current mine 2 true true ∧ t.main.drain.post = .current ∧ t.main.queue = [] ∧
        t.main.drain.batch = [5]) := by
  refine ⟨?_, by decide⟩
  unfold Retained.LogInOrder
  decide

theorem witness_log_in_order :
    (withLog outOfOrder 208 quiet).ret.LogInOrder := by
  unfold Retained.LogInOrder
  decide

/-- COMMIT(204) of that section: 203, 205, 206 and 207 stay; from another station it changes nothing. -/
theorem witness_commit :
    let s := draining awaiting (withLog outOfOrder 208 quiet)
    (after (.commit 15#4 204#32) s).ret.log.map Record.seq = [203, 205, 206, 207] ∧
      (after (.commit 15#4 204#32) s).main.drain.batch = [205, 207] ∧
      (after (.commit 15#4 0#32) s).ret.log.length = 8 ∧
      (after (.commit 14#4 204#32) s).ret.log = s.ret.log ∧ s.main.slots.held.Nodup := by decide

/-- A COMMIT that releases a SLOTTED record empties its slot and withdraws its ALERT; the other slot's stays (R68,
R83). -/
theorem witness_commit_frees_slot :
    let alert (i : Fin 4) (q : Nat) : Post := { mask := 0xFFFE#16, body := .alert i q 1#32 1 false 3 }
    let s := draining { awaiting with batch := [101] } (withLink [alert 2 107, alert 0 101] none
      (withLog [{ record 101 1#32 .closed .sentInBatch .slotted 1 with route := 0 },
          record 107 2#32 .opened .unsent .slotted 1] 108
        { quiet with main := { quiet.main with slots := { emptySlots with s0 := some 101, s2 := some 107 } } }))
    let t := after (.commit 15#4 101#32) s
    s.main.slots.held.Nodup ∧ t.main.slots = { emptySlots with s2 := some 107 } ∧ t.main.alertsReleased = 1 ∧
      t.main.queue = [alert 2 107, drainPost (.batchEnd 0 none)] := by decide

/-- "A commit wait that runs out in a sag" (section 9.7): the records return to UNSENT; and a DRAIN-CLOSE from the
dock and from another station. -/
theorem witness_drain_end :
    let s := draining awaiting (withLog outOfOrder 208 quiet)
    (after .commitWaitExpiry (after (.enterSag 0) s)).main.drain = { idleDrain with position := 0 } ∧
      (after .commitWaitExpiry s).ret.log.countP (fun x => x.mark == .sentInBatch) = 0 ∧
      (after (.drainClose 15#4) s).main.drain = idleDrain ∧ (after (.drainClose 14#4) s).main.drain = awaiting ∧
      (after .commitWaitExpiry quiet) = quiet := by decide

/-- Where the engine's post stands when its drain ends (R166): WAITING, QUEUED, CURRENT between attempts, and CURRENT
in an attempt. -/
theorem witness_drain_end_by_post :
    let mine := drainPost (.batchEnd 1 (some (5, 5)))
    let s (q : List Post) (c : Option Current) (p : DrainPost) : Main :=
      (draining { sending with post := p } (withLink q c quiet)).main.drainEnded
    s [statusPost] none .waiting = (withLink [statusPost] none quiet).main ∧
      s [statusPost, mine] none .queued = (withLink [statusPost] none quiet).main ∧
      s [] (current mine 3 false false) .current = quiet.main ∧
      ((s [] (current mine 3 true false) .current).current = current mine 3 true true ∧
        (s [] (current mine 3 true false) .current).drain = { idleDrain with post := .current }) := by decide

/-- A post held WAITING: with a place for it, a RECORD, a BATCH-END and one with COUNT 0, and with a full queue; the
ends of a batch of three. -/
theorem witness_waiting_post :
    let d (n : Nat) : Drain := { sending with post := .waiting, position := n }
    let s (n : Nat) (q : List Post) := draining (d n) (withLink q none (withLog [closedRecord 5] 6 quiet))
    (after .drainPostOffer (s 0 (fullQueue.take 15))).main.queue.getLast? = some (drainPost (.record (closedRecord 5))) ∧
      (after .drainPostOffer (s 1 (fullQueue.take 15))).main.queue.getLast? =
        some (drainPost (.batchEnd 1 (some (5, 5)))) ∧
      (after .drainPostOffer (draining { d 0 with batch := [] } quiet)).main.queue =
        [drainPost (.batchEnd 0 none)] ∧
      (after .drainPostOffer (draining { d 3 with batch := [4, 6, 9] } quiet)).main.queue =
        [drainPost (.batchEnd 3 (some (4, 9)))] ∧
      (after .drainPostOffer (s 0 fullQueue)).main.queue = fullQueue := by decide

/-! ## Supply, park and start-up -/

/-- "A crank with the supply threshold at its default" (section 10.5): SAG below 9.5 V, NORMAL at 9.9 V. -/
theorem witness_supply :
    let sag := after (.enterSag 9499) quiet
    (after (.enterSag 9500) quiet).main.supply = .normal ∧ (sag.main.supply = .sag ∧ sag.main.sagSeen = true) ∧
      (after (.returnToNormal 9899) sag).main.supply = .sag ∧
      (after (.returnToNormal 9900) sag).main.supply = .normal := by decide

/-- A station with a HELD contact, a stored frame and an open drain, parked by IGN, by a PARK post and by the
park-return timer; its STATUS stays queued and the CLAIM of a CLAIMING contact does not. -/
theorem witness_entry_to_parked :
    let s := draining { awaiting with batch := [] } (withLink [statusPost, claimPost 5#32 37 .claiming] none
      (withFrames [frame meterA 6 5 5 0] (withContacts [contact meterA (.held 9), claimer 5#32]
        (withLog [record 9 meterA .opened .unsent .none 0] 10 quiet))))
    let parked (t : State) : Prop :=
      t.main.park = .parked ∧ t.main.contacts = [] ∧ t.main.portA.slots = [] ∧ t.main.drain.state = .idle ∧
        t.main.queue = [statusPost] ∧
        t.ret.log = [record 9 meterA .closed .unsent .none 0]
    (parked (after .ignFallingEdge s) ∧ parked (after (.park 14#4) s)) ∧
      parked (after .parkReturnExpiry { s with main := { s.main with park := .linkAwake, parkReturn := some 0 } }) := by
  decide

/-- Wake after 40 µs of quiet and not after 39, the settle, and the two ways to RUN; the post that woke the station is
not received, and the next is. -/
theorem witness_wake_and_run :
    let parked := after .ignFallingEdge quiet
    let awake := after .wakeSettleExpiry (after (.wake 40) parked)
    ((after (.wake 39) parked).main.park = .parked ∧ (after (.wake 40) parked).main.wakeSettle = some 2) ∧
      (awake.main.park = .linkAwake ∧ awake.main.parkReturn = some 30000 ∧ awake.main.queue = [statusPost]) ∧
      ((after (.run 14#4) awake).main.park = .linkAwake ∧
        (after (.run 14#4) (after (.wake 40) awake)).main.park = .run ∧
        (after (.run 14#4) (after (.wake 40) awake)).main.parkReturn = none) ∧
      (let hears := after (.wake 40) awake
      let low : State := { hears with main := { hears.main with parkReturn := some 5 } }
      low.TakesFrom 14#4 ∧ (low.hearing 14#4 .console).main.parkReturn = some 30000 ∧
        (low.heardFrom 14 .console).main.parkReturn = some 5 ∧ (quiet.hearing 14#4 .console).main.parkReturn = none) ∧
      (after .ignRisingEdge parked).main.park = .run ∧ (after (.run 14#4) quiet).main.queue = [] := by
  unfold State.TakesFrom
  decide

/-- "An update cut short" (section 8.7): the loss in the middle of the update of the clone's record leaves the
record and Z of before, and the loss after it both new; VBAK alone loses nothing, and with it gone VMAIN loses all,
unless VBAK is there again by then. -/
theorem witness_supply_loss :
    let t := after (.take .a) clone
    (after (.mainSupplyLoss 2) t).ret = { clone.ret with stationClock := 0 } ∧
      (after (.mainSupplyLoss 1) t).ret.entries.map RouteEntry.z = [some 3900] ∧
      (after (.mainSupplyLoss 0) t).ret = t.ret ∧
      (after .backupSupplyLoss (after (.mainSupplyLoss 0) t)).ret.retentionValid = false ∧
      (after .backupSupplyLoss t).ret = t.ret ∧ t.journal.length = 2 ∧ t.backup = true ∧
      (after (.mainSupplyLoss 0) (after .backupSupplyLoss t)).ret.retentionValid = false ∧
      (after (.mainSupplyLoss 0) (after .backupSupplyLoss (after .backupSupplyLoss t))).ret = t.ret := by
  decide

/-- "A restore with a drain and alerts in flight" (section 8.7). -/
theorem test_restored_start :
    let l := [record 300 1#32 .closed .sentInBatch .acked 1, record 301 1#32 .closed .sentInBatch .slotted 1,
      record 302 1#32 .closed .unsent .pending 1, record 303 1#32 .opened .unsent .slotted 1,
      record 304 1#32 .opened .unsent .none 1]
    let t := after (.startUp 3#4 (List.replicate 32 0xFF#8) true 12000) (withLog l 305 quiet)
    t.ret.log.map Record.alert = [.acked, .pending, .pending, .pending, .none] ∧
      t.ret.log.map Record.isOpen = [false, false, false, false, false] ∧
      t.ret.log.map Record.mark = [.unsent, .unsent, .unsent, .unsent, .unsent] ∧
      (t.ret.log.filterMap Record.readFields).map (fun f => f.marks.interrupted) =
        [false, false, false, true, true] ∧ t.ret.nextSeq = 305 ∧ t.main.cause = .restored := by decide

/-- A COLD start of station 1 without a configuration memory is the state right after reset, and strap value 0
starts in MUTE. -/
theorem test_cold_start_is_reset :
    let off := after .backupSupplyLoss (after .backupSupplyLoss (after (.mainSupplyLoss 0) quiet))
    after (.startUp 1#4 (List.replicate 32 0xFF#8) true 12000) off =
        { State.reset with journal := [clearedRetained false] } ∧
      (after (.startUp 0#4 (List.replicate 32 0xFF#8) true 12000) off).main.mute = true := by decide +kernel

/-- The setting bytes of "Start-up with a clamped block" (section 10.5), the rest at their defaults. -/
def clampedBytes : List Byte :=
  [0x00#8, 0xC0#8, 0xD4#8, 0xFF#8, 0xFF#8, 0xFF#8, 0xFF#8, 0x00#8, 0x00#8, 0x12#8, 0x34#8, 0x56#8, 0x78#8] ++
    [10#8, 5#8, 90#8, 8#8, 1#8, 10#8, 8#8, 0#8, 0#8, 0#8, 3#8, 30#8, 3#8, 0#8, 0#8, 0#8, 0#8]

/-- The effective column of that block, and CONFIG-REPORT byte 0 with strap value 5: 51h (R203). -/
theorem test_clamped_block :
    let rc := readConfig (clampedBytes ++ beBytes 2 (checkWord clampedBytes))
    (rc.isDefault = false ∧ rc.clamped = true) ∧ rc.settings.idleTimeout = 60 ∧ rc.settings.statusInterval = 10 ∧
      rc.settings.peerSilence = 20 ∧ rc.settings.threshold = 1 ∧ rc.settings.portB.levelOffset = 15 ∧
      rc.settings.prefixValue = 0x12340000#32 ∧ rc.settings.settle = 2 ∧
      (bodyBytes quiet.statusFields (.configReport 5 rc.isDefault rc.clamped rc.settings)).head? = some 0x51#8 := by
  decide

/-- A block of 32 bytes whose check word is right, and one whose check word is wrong. -/
theorem witness_blocks :
    ((clampedBytes ++ beBytes 2 (checkWord clampedBytes)).length = 32 ∧
      checkWord ((clampedBytes ++ beBytes 2 (checkWord clampedBytes)).take 30) =
        beNat ((clampedBytes ++ beBytes 2 (checkWord clampedBytes)).drop 30)) ∧
    (clampedBytes ++ [0#8, 0#8]).length = 32 ∧
      checkWord ((clampedBytes ++ [0#8, 0#8]).take 30) ≠ beNat ((clampedBytes ++ [0#8, 0#8]).drop 30) := by decide

/-- A RESET from a console, and the queries from a console and from a collector, with PART at and above its
limit. -/
theorem witness_reset_and_queries :
    quiet.TakesFrom 14#4 ∧
      ((after (.reset 14#4 .console) alerting).ret.log.map Record.alert = [.pending, .pending, .pending, .pending] ∧
        (after (.reset 14#4 .console) alerting).main.slots = emptySlots ∧
        (after (.reset 2#4 .collector) alerting).main.slots = alerting.main.slots) ∧
      (after (.countQuery 14#4 .console 2#8) quiet).main.queue.map (fun p => p.body) =
        [.countReport .station [0, 0, 0, 0, 0]] ∧
      (after (.countQuery 14#4 .console 3#8) quiet).main.queue = [] ∧
      (after (.configQuery 14#4 .console) quiet).main.queue.length = 1 ∧
      (after (.configQuery 2#4 .collector) quiet).main.queue = [] := by
  refine ⟨?_, by decide⟩
  unfold State.TakesFrom
  decide

/-! ## What every step keeps -/

/-- A state with a HELD contact, a SLOTTED record and a batch. -/
def busy : State :=
  draining { awaiting with batch := [7] }
    (withContacts [contact meterA (.held 9)]
      (withLog [{ closedRecord 7 with mark := .sentInBatch }, record 8 1#32 .closed .unsent .slotted 1,
          record 9 meterA .opened .unsent .none 0] 10
        { onRoute .running [entry 0 meterA .readHere] quiet with
          main := { quiet.main with slots := { emptySlots with s0 := some 8 } } }))

theorem witness_sound_main : busy.main.ContactsSound ∧ busy.main.drain.Sound := by
  unfold Main.ContactsSound Contact.Sound Drain.Sound
  decide

theorem witness_link_sound : busy.main.LinkSound := by
  refine ⟨?_, by decide, by decide, by decide, by decide, ?_, ?_⟩
  · unfold Main.QueueSound
    decide
  · intro p hp
    exact absurd hp (List.not_mem_nil)
  · intro c hc
    exact absurd hc (Option.not_mem_none c)

theorem witness_sound_retained :
    busy.EveryRetained Retained.LogSound ∧ busy.EveryRetained (fun r => r.RouteSound ∧ r.ClocksInWidth) := by
  refine ⟨⟨?_, fun _ h => absurd h List.not_mem_nil⟩, ⟨?_, ?_⟩, fun _ h => absurd h List.not_mem_nil⟩
  · unfold Retained.LogSound Retained.LogInOrder Retained.LogHasRoom
    decide
  · unfold Retained.RouteSound RouteEntry.InRange RouteEntry.Untouched
    decide
  · unfold Retained.ClocksInWidth
    decide

theorem witness_in_range : busy.EveryRetained Retained.ReadingsInRange ∧ ∀ c ∈ busy.main.contacts, c.InRange := by
  unfold State.EveryRetained Retained.ReadingsInRange Contact.InRange MeasuredInRange
  decide

theorem witness_held_own_open : busy.HeldOwnOpen := by
  refine fun _ => ⟨fun c hc q hq => ?_, by decide⟩
  cases List.mem_singleton.mp hc
  cases hq
  decide

theorem witness_bindings : busy.SlotsNameSlotted ∧ busy.BatchMarksAgree ∧ busy.PeersSound := by
  unfold State.SlotsNameSlotted State.BatchMarksAgree State.PeersSound
  decide

/-- The hypotheses of the statements on every step hold together of a state that a step leaves. -/
theorem witness_sound :
    busy.Sound ∧ ∃ t, step { busy with pending := [.idleExpiry meterA] } = .next t ∧
      t.ret.log.map Record.isOpen = [false, false, false] :=
  ⟨⟨witness_sound_retained.1, witness_sound_main.1, witness_link_sound, witness_sound_main.2, witness_held_own_open,
    witness_bindings.1, witness_bindings.2.1⟩, _, rfl, by decide⟩

end Sys2Proof.Tests
end

section
/-! # The burst ports: rules of their updates, the bits of a frame, and the stretch of line activity -/

namespace Sys2Proof.Machine

/-! ## Rules of a port's updates -/

section

variable (m : Main) (s : State) (p : Port) (x y : PortState)

@[simp] theorem Main.port_setPort : (m.setPort p x).port p = x := by cases p <;> rfl

theorem Main.port_setPort_of_ne {q : Port} (h : q ≠ p) : (m.setPort p x).port q = m.port q := by
  match p, q with
  | .a, .a | .b, .b => exact absurd rfl h
  | .a, .b | .b, .a => rfl

@[simp] theorem Main.setPort_setPort : (m.setPort p x).setPort p y = m.setPort p y := by
  cases p <;> rfl

@[simp] theorem Main.setPort_cfg : (m.setPort p x).cfg = m.cfg := by cases p <;> rfl
@[simp] theorem Main.setPort_contacts : (m.setPort p x).contacts = m.contacts := by cases p <;> rfl
@[simp] theorem Main.setPort_peers : (m.setPort p x).peers = m.peers := by cases p <;> rfl

@[simp] theorem State.setPort_pins : (s.setPort p x).pins = s.pins := rfl
@[simp] theorem State.setPort_ret : (s.setPort p x).ret = s.ret := rfl
@[simp] theorem State.setPort_main : (s.setPort p x).main = s.main.setPort p x := rfl
@[simp] theorem State.setPort_setPort : (s.setPort p x).setPort p y = s.setPort p y := by
  simp [State.setPort]

end

/-- Time reaches no port and no setting. -/
theorem Main.passTime_port (m : Main) (n : Nat) (p : Port) : (m.passTime n).port p = m.port p := by
  cases p <;> rfl

@[simp] theorem State.passTime_port (s : State) (n : Nat) (p : Port) :
    (s.passTime n).main.port p = s.main.port p := by
  rw [State.passTime_main]
  split
  · exact Main.passTime_port s.main n p
  · rfl

@[simp] theorem State.passTime_cfg (s : State) (n : Nat) : (s.passTime n).main.cfg = s.main.cfg := by
  rw [State.passTime_main]
  split <;> rfl

@[simp] theorem State.passTime_park (s : State) (n : Nat) : (s.passTime n).main.park = s.main.park := by
  rw [State.passTime_main]
  split <;> rfl

@[simp] theorem State.begin_portRuns (s : State) (p : Port) : s.begin.portRuns p = s.portRuns p := rfl

@[simp] theorem State.passTime_portRuns (s : State) (n : Nat) (p : Port) :
    (s.passTime n).portRuns p = s.portRuns p := by
  simp [State.portRuns]

/-- A port runs while start-up has ended, its ENABLE is on and the park state is RUN (R5). -/
theorem State.portRuns_iff (s : State) (p : Port) :
    s.portRuns p = true ↔
      s.powered = true ∧ s.main.park = .run ∧ (portSettings s.main.cfg p).enable = true := by
  simp only [State.portRuns, Bool.and_eq_true, beq_iff_eq]
  exact ⟨fun ⟨⟨hp, he⟩, hk⟩ => ⟨hp, hk, he⟩, fun ⟨hp, hk, he⟩ => ⟨⟨hp, he⟩, hk⟩⟩

/-! ## The bits of a frame -/

/-- Eight bits packed into a byte are the byte of those bits with the most significant bit first. -/
theorem packedByte_eq_ofBoolListBE : ∀ b7 b6 b5 b4 b3 b2 b1 b0 : Bool,
    BitVec.ofNat 8 (b7.toNat * 128 + b6.toNat * 64 + b5.toNat * 32 + b4.toNat * 16 + b3.toNat * 8 +
      b2.toNat * 4 + b1.toNat * 2 + b0.toNat) = BitVec.ofBoolListBE [b7, b6, b5, b4, b3, b2, b1, b0] := by
  decide

/-- A run of fewer than eight bits has no whole byte. -/
theorem length_lt_eight_of_packBits_stop {bits : List Bool}
    (h : ∀ b7 b6 b5 b4 b3 b2 b1 b0 rest, bits = b7 :: b6 :: b5 :: b4 :: b3 :: b2 :: b1 :: b0 :: rest → False) :
    bits.length < 8 := by
  match bits with
  | [] | [_] | [_, _] | [_, _, _] | [_, _, _, _] | [_, _, _, _, _] | [_, _, _, _, _, _]
  | [_, _, _, _, _, _, _] => simp
  | _ :: _ :: _ :: _ :: _ :: _ :: _ :: _ :: _ => exact (h _ _ _ _ _ _ _ _ _ rfl).elim

/-- A run of bits has one whole byte for each eight (R1). -/
theorem packBits_length (bits : List Bool) : (packBits bits).length = bits.length / 8 := by
  fun_induction packBits bits with
  | case1 b7 b6 b5 b4 b3 b2 b1 b0 rest ih =>
    simp only [List.length_cons, ih]
    omega
  | case2 bits stop =>
    have short := length_lt_eight_of_packBits_stop stop
    simp only [List.length_nil]
    omega

/-- The first bit of each eight is the most significant of its byte (R1). -/
theorem packBits_getLsbD (bits : List Bool) :
    ∀ k j, 8 * k + 8 ≤ bits.length → j < 8 →
      (byteAt (packBits bits) k).getLsbD (7 - j) = bits.getD (8 * k + j) false := by
  fun_induction packBits bits with
  | case1 b7 b6 b5 b4 b3 b2 b1 b0 rest ih =>
    intro k j hk hj
    cases k with
    | zero =>
      rw [packedByte_eq_ofBoolListBE]
      have hpos : 7 - (7 - j) = j := by omega
      have hlt : 7 - j < 8 := by omega
      simp only [byteAt, List.getD_cons_zero, BitVec.getLsbD_ofBoolListBE, List.length_cons, List.length_nil]
      simp only [Nat.zero_add, Nat.reduceAdd, Nat.reduceSub, hpos, hlt, decide_true, Bool.true_and,
        Nat.mul_zero]
      rw [← List.getD_append (l := [b7, b6, b5, b4, b3, b2, b1, b0]) (l' := rest) (h := hj)]
      rfl
    | succ k =>
      have step : 8 * (k + 1) + j = 8 * k + j + 8 := by omega
      have room : 8 * k + 8 ≤ rest.length := by
        simp only [List.length_cons] at hk
        omega
      simpa [byteAt, step] using ih k j room hj
  | case2 bits stop =>
    intro k j hk
    have short := length_lt_eight_of_packBits_stop stop
    omega

/-! ## The stretch of line activity -/

/-- The frame a running port has after `bits` more: begun at a rise of frame-valid, or gone on with (R1, R5). -/
theorem State.clockedFrame_of_running (s : State) (p : Port) (bits frame : List Bool)
    (hr : s.portRuns p = true)
    (h : s.pins.frameValid p = false ∧ frame = bits ∨
      s.pins.frameValid p = true ∧ ∃ held, (s.main.port p).receiving = some held ∧ frame = held ++ bits) :
    s.clockedFrame p bits = some frame := by
  rcases h with ⟨hv, rfl⟩ | ⟨hv, held, hh, rfl⟩ <;> simp [State.clockedFrame, *]

/-- A port that is stopped, or that holds no frame while frame-valid is high, takes up nothing (R1, R5, R6). -/
theorem State.clockedFrame_eq_none (s : State) (p : Port) (bits : List Bool)
    (h : s.portRuns p = false ∨ s.pins.frameValid p = true ∧ (s.main.port p).receiving = none) :
    s.clockedFrame p bits = none := by
  rcases h with hr | ⟨hv, hn⟩ <;> simp [State.clockedFrame, *]

/-- A completed frame is stored as its port's newest (R3), or costs one frame on a full port (R4); without a bit it is
none. -/
theorem State.frameCompleted_eq (s : State) (p : Port) (frame : List Bool) :
    s.frameCompleted p frame =
      if frame = [] then s
      else s.setPort p ((s.main.port p).store (portSettings s.main.cfg p).keepNewest
        (frameOf frame s.ret.stationClock)) := by
  simp [State.frameCompleted]

theorem PortState.store_of_room (x : PortState) (keepNewest : Bool) (f : Frame) (h : x.slots.length < 2) :
    x.store keepNewest f = { x with slots := x.slots ++ [f] } := by
  simp [PortState.store, portSlotLimit, h]

theorem PortState.store_of_full (x : PortState) (keepNewest : Bool) (f older newer : Frame)
    (h : x.slots = [older, newer]) :
    x.store keepNewest f =
      { x with
        slots := if keepNewest then [newer, f] else [older, newer]
        counters := { x.counters with overrun := x.counters.overrun + 1 } } := by
  simp [PortState.store, portSlotLimit, h]

/-- The frame record of R1, its EXACT written as a comparison. -/
theorem frameOf_eq (frame : List Bool) (t : Nat) :
    frameOf frame t =
      { bytes := (packBits frame).take 15, isExact := decide (frame.length = 120), time := t } := by
  simp [frameOf, beq_eq_decide]

/-- A stretch without a fall leaves in progress what the port has gathered at its end (R1). -/
theorem exec_frameComplete_stays (p : Port) (wait : Nat) (bits : List Bool) (s : State) :
    exec (.frameComplete p wait bits false) s =
      .next (({ (s.begin).passTime wait with pins := s.pins.setFrameValid p true } : State).setPort p
        { s.main.port p with receiving := ((s.begin).passTime wait).clockedFrame p bits }) := by
  have port := State.passTime_port s.begin wait p
  simp only [exec, execFrameComplete, done, State.lineStretch]
  simp [port]

/-- A stretch with a fall completes what the port has gathered at its end (R1, R3, R4). -/
theorem exec_frameComplete_falls (p : Port) (wait : Nat) (bits : List Bool) (s : State) :
    let u := (s.begin).passTime wait
    let fallen : State := { u with pins := s.pins.setFrameValid p false }
    let x : PortState := { s.main.port p with receiving := none }
    let frame := (u.clockedFrame p bits).getD []
    exec (.frameComplete p wait bits true) s = .next (fallen.setPort p
      (if frame = [] then x
       else x.store (portSettings s.main.cfg p).keepNewest (frameOf frame u.ret.stationClock))) := by
  intro u fallen x frame
  have port : u.main.port p = s.main.port p := State.passTime_port s.begin wait p
  have cfg : u.main.cfg = s.main.cfg := State.passTime_cfg s.begin wait
  have run : exec (.frameComplete p wait bits true) s =
      .next ((fallen.setPort p { u.main.port p with receiving := none }).frameCompleted p frame) := rfl
  rw [run, port, State.frameCompleted_eq]
  by_cases hf : frame = [] <;> simp [hf, x, fallen, cfg]

/-- Settles O3: what the stretch does follows from the frame the port has gathered at its end. -/
theorem completedFrameIsStoredLostOrIgnored : Obligations.CompletedFrameIsStoredLostOrIgnored := by
  unfold Obligations.CompletedFrameIsStoredLostOrIgnored
  refine ⟨fun bits => ⟨packBits_length bits, packBits_getLsbD bits⟩, ?_, ?_, ?_⟩
  · intro p s
    cases p <;> exact s.portRuns_iff _
  · intro p wait bits frame s hr hf u level whole x
    have gathered : u.clockedFrame p bits = some frame :=
      u.clockedFrame_of_running p bits frame (by simpa [u] using hr) (by simpa [u] using hf)
    refine ⟨?_, ?_, ?_, ?_⟩
    · rw [exec_frameComplete_stays, gathered]
    · rintro rfl
      rw [exec_frameComplete_falls, gathered, Option.getD_some, if_pos rfl]
    · intro hne room
      rw [exec_frameComplete_falls, gathered, Option.getD_some, if_neg hne, frameOf_eq]
      exact congrArg (level false) (PortState.store_of_room { x with receiving := none } _ whole room)
    · intro older newer hne full
      rw [exec_frameComplete_falls, gathered, Option.getD_some, if_neg hne, frameOf_eq]
      exact congrArg (level false)
        (PortState.store_of_full { x with receiving := none } _ whole older newer full)
  · intro p wait bits falls s h
    have nothing : ((s.begin).passTime wait).clockedFrame p bits = none :=
      State.clockedFrame_eq_none _ p bits (by simpa using h)
    cases falls with
    | false => rw [exec_frameComplete_stays, nothing]; rfl
    | true => rw [exec_frameComplete_falls, nothing]; rfl

end Sys2Proof.Machine
end

section
/-! # Bytes read at their positions, and the effective configuration -/

namespace Sys2Proof.Machine

/-! ## Big-endian values -/

/-- The value carried into a run of bytes stands above all of them. -/
theorem foldl_bytes_eq (a : Nat) (bs : List Byte) :
    bs.foldl (fun v b => v * 256 + b.toNat) a = a * 256 ^ bs.length + beNat bs := by
  induction bs generalizing a with
  | nil => simp [beNat]
  | cons b bs ih =>
    have tail := ih b.toNat
    simp only [beNat, List.foldl_cons, Nat.zero_mul, Nat.zero_add] at *
    rw [ih (a * 256 + b.toNat), tail, List.length_cons]
    ring

theorem beNat_cons (b : Byte) (bs : List Byte) :
    beNat (b :: bs) = b.toNat * 256 ^ bs.length + beNat bs := by
  rw [← foldl_bytes_eq]
  simp [beNat]

theorem beNat_lt (bs : List Byte) : beNat bs < 256 ^ bs.length := by
  induction bs with
  | nil => simp [beNat]
  | cons b bs ih =>
    have byte : b.toNat < 256 := b.isLt
    rw [beNat_cons, List.length_cons, Nat.pow_succ]
    nlinarith

theorem beAt_lt (bs : List Byte) (i n : Nat) : beAt bs i n < 256 ^ n := by
  refine (beNat_lt _).trans_le (Nat.pow_le_pow_right (by decide) ?_)
  exact List.length_take_le n _

@[simp] theorem beAt_zero (bs : List Byte) (i : Nat) : beAt bs i 0 = 0 := rfl

/-- A value within the list is its first byte above the value of the bytes that follow. -/
theorem beAt_succ (bs : List Byte) (i n : Nat) (h : i + n < bs.length) :
    beAt bs i (n + 1) = (byteAt bs i).toNat * 256 ^ n + beAt bs (i + 1) n := by
  have hi : i < bs.length := by omega
  have rest : ((bs.drop (i + 1)).take n).length = n := by
    simp only [List.length_take, List.length_drop]
    omega
  rw [beAt, List.drop_eq_getElem_cons hi, List.take_succ_cons, beNat_cons, rest]
  simp [beAt, byteAt, hi]

theorem beAt_two (bs : List Byte) (i : Nat) (h : i + 1 < bs.length) :
    beAt bs i 2 = (byteAt bs i).toNat * 256 + (byteAt bs (i + 1)).toNat := by
  rw [beAt_succ bs i 1 h, beAt_succ bs (i + 1) 0 (by omega)]
  simp

theorem beAt_four (bs : List Byte) (i : Nat) (h : i + 3 < bs.length) :
    beAt bs i 4 = (byteAt bs i).toNat * 2 ^ 24 + (byteAt bs (i + 1)).toNat * 2 ^ 16 +
      (byteAt bs (i + 2)).toNat * 2 ^ 8 + (byteAt bs (i + 3)).toNat := by
  rw [beAt_succ bs i 3 h, beAt_succ bs (i + 1) 2 (by omega), beAt_two bs (i + 2) (by omega)]
  ring

/-- The bytes from position `i` to the end of a list that ends `n` bytes on. -/
theorem beAt_eq_beNat_drop (bs : List Byte) (i n : Nat) (h : bs.length ≤ i + n) :
    beAt bs i n = beNat (bs.drop i) := by
  rw [beAt, List.take_of_length_le]
  simp only [List.length_drop]
  omega

/-! ## Clamping -/

/-- The nearest end of a range, case by case. -/
theorem clamp_eq_if (lo hi v : Nat) (h : lo ≤ hi) :
    clamp lo hi v = if v < lo then lo else if hi < v then hi else v := by
  unfold clamp
  split <;> (try split) <;> omega

theorem le_clamp (lo hi v : Nat) : lo ≤ clamp lo hi v := Nat.le_max_left _ _

theorem clamp_le (lo hi v : Nat) (h : lo ≤ hi) : clamp lo hi v ≤ hi :=
  Nat.max_le.2 ⟨h, Nat.min_le_left _ _⟩

/-- The defaults lie in their ranges. -/
theorem defaultSettings_inRange : settingsInRange defaultSettings := by
  unfold settingsInRange
  decide

/-- Clamping takes every setting to its range; the sector and the stall age are within theirs as they are read. -/
theorem clampSettings_inRange (c : Settings) (hs : c.sector ≤ 3) (ha : c.stallAge ≤ 65535) :
    settingsInRange (clampSettings c) := by
  have interval := clamp_le 1 20 c.statusInterval (by decide)
  have silence := clamp_le 2 60 c.peerSilence (by decide)
  have masked : c.prefixValue &&& c.prefixMask &&& c.prefixMask = c.prefixValue &&& c.prefixMask := by
    rw [BitVec.and_assoc, BitVec.and_self]
  refine ⟨hs, clamp_le _ _ _ (by decide), clamp_le _ _ _ (by decide), masked, le_clamp _ _ _,
    clamp_le _ _ _ (by decide), le_clamp _ _ _, clamp_le _ _ _ (by decide), le_clamp _ _ _,
    clamp_le _ _ _ (by decide), clamp_le _ _ _ (by decide), le_clamp _ _ _, clamp_le _ _ _ (by decide),
    le_clamp _ _ _, interval, Nat.le_max_right _ _, (le_clamp 2 60 _).trans (Nat.le_max_left _ _), ?_,
    le_clamp _ _ _, clamp_le _ _ _ (by decide), ha, le_clamp _ _ _, clamp_le _ _ _ (by decide),
    le_clamp _ _ _, clamp_le _ _ _ (by decide), clamp_le _ _ _ (by decide)⟩
  exact Nat.max_le.2 ⟨silence, by omega⟩

/-- Clamping changes a block's settings exactly where it changes one of them. -/
theorem clampSettings_ne_iff (c : Settings) :
    clampSettings c ≠ c ↔
      15 < c.portA.levelOffset ∨ 15 < c.portB.levelOffset ∨ c.prefixValue &&& c.prefixMask ≠ c.prefixValue ∨
        (clampSettings c).window ≠ c.window ∨ (clampSettings c).limit ≠ c.limit ∨
        (clampSettings c).idleTimeout ≠ c.idleTimeout ∨ (clampSettings c).holdOff ≠ c.holdOff ∨
        (clampSettings c).settle ≠ c.settle ∨ (clampSettings c).statusInterval ≠ c.statusInterval ∨
        (clampSettings c).peerSilence ≠ c.peerSilence ∨ (clampSettings c).threshold ≠ c.threshold ∨
        (clampSettings c).commitWait ≠ c.commitWait ∨ (clampSettings c).parkReturn ≠ c.parkReturn ∨
        (clampSettings c).supplyLevel ≠ c.supplyLevel := by
  have port (x : PortSettings) : clampPort x = x ↔ ¬ 15 < x.levelOffset := by
    rcases x with ⟨e, k, l⟩
    simp only [clampPort, clamp, PortSettings.mk.injEq, true_and]
    omega
  rcases c with ⟨⟩
  simp only [clampSettings, ne_eq, Settings.mk.injEq, true_and, port, not_and_or, not_not]

/-- The settings as read have a sector and a stall age within their ranges. -/
theorem decodeSettings_sector_le (bs : List Byte) : (decodeSettings bs).sector ≤ 3 :=
  Nat.le_of_lt_succ (Nat.mod_lt _ (by decide))

theorem decodeSettings_stallAge_le (bs : List Byte) : (decodeSettings bs).stallAge ≤ 65535 :=
  Nat.le_of_lt_succ (beAt_lt bs 21 2)

/-! ## The configuration block -/

theorem readConfig_of_checkOk {bs : List Byte} (h : blockCheckOk bs = true) :
    readConfig bs =
      { settings := clampSettings (decodeSettings bs), isDefault := false,
        clamped := decide (clampSettings (decodeSettings bs) ≠ decodeSettings bs) } := if_pos h

theorem readConfig_of_checkWrong {bs : List Byte} (h : blockCheckOk bs = false) :
    readConfig bs = { settings := defaultSettings, isDefault := true, clamped := false } := by
  simp [readConfig, h]

/-- The check word of a block of 32 bytes stands in its last two (R193). -/
theorem blockCheckOk_iff {bs : List Byte} (h : bs.length = 32) :
    blockCheckOk bs = true ↔ checkWord (bs.take 30) = beNat (bs.drop 30) := by
  simp [blockCheckOk, h, beAt_eq_beNat_drop bs 30 2 (by omega)]

/-- The two highest bits of a byte by its value. -/
theorem getLsbD_seven_eq (b : Byte) : b.getLsbD 7 = decide (128 ≤ b.toNat) := by
  revert b
  decide

theorem getLsbD_six_eq (b : Byte) : b.getLsbD 6 = decide (64 ≤ b.toNat % 128) := by
  revert b
  decide

/-- A port's setting byte by value: ENABLE is its bit 7 and OVERRUN-POLICY its bit 6 (section 11.5). -/
theorem clampPort_decodePort (b : Byte) :
    clampPort (decodePort b) =
      { enable := decide (128 ≤ b.toNat), keepNewest := decide (64 ≤ b.toNat % 128)
        levelOffset := clamp 0 15 (b.toNat % 32) } := by
  simp only [clampPort, decodePort, getLsbD_seven_eq, getLsbD_six_eq]

/-- Settles O48: the block is read by its check word, and each of its settings is clamped by itself. -/
theorem effectiveSettingsAreInRange : Obligations.EffectiveSettingsAreInRange := by
  unfold Obligations.EffectiveSettingsAreInRange
  refine ⟨?_, ?_, ?_, by decide, by decide⟩
  · intro bs
    cases h : blockCheckOk bs with
    | true =>
      rw [readConfig_of_checkOk h]
      exact clampSettings_inRange _ (decodeSettings_sector_le bs) (decodeSettings_stallAge_le bs)
    | false =>
      rw [readConfig_of_checkWrong h]
      exact defaultSettings_inRange
  · intro bs hlen hne port
    have wrong : blockCheckOk bs = false := by
      rw [← Bool.not_eq_true, blockCheckOk_iff hlen]
      exact hne
    rw [readConfig_of_checkWrong wrong]
    rfl
  · intro bs hlen heq v near port mask value c
    have read : c = _ := readConfig_of_checkOk ((blockCheckOk_iff hlen).2 heq)
    have nearest (lo hi x : Nat) (h : lo ≤ hi) : near lo hi x = clamp lo hi x := (clamp_eq_if lo hi x h).symm
    refine ⟨by rw [read], ?_, ?_⟩
    · rw [read]
      simp only [clampSettings, decodeSettings, clampPort_decodePort, getLsbD_seven_eq, Settings.mk.injEq]
      simp [nearest, port, v, mask, value, beAt]
    · rw [read]
      exact decide_eq_true_iff.trans (clampSettings_ne_iff (decodeSettings bs))

end Sys2Proof.Machine
end

section
/-! # Acceptance: the checks, the dispositions, and what a take leaves alone -/

namespace Sys2Proof.Machine

/-! ## Tables by meter -/

theorem State.contactOf_eq_none_iff (s : State) (m : MeterId) :
    s.contactOf m = none ↔ ∀ c ∈ s.main.contacts, c.meter ≠ m := by
  simp [State.contactOf]

/-! ## The checks as conditions -/

theorem validMeter_iff (m : MeterId) : validMeter m = true ↔ m ≠ 0#32 ∧ m ≠ 0xFFFFFFFF#32 := by
  simp [validMeter]

theorem burstValid_iff (b : Burst) : burstValid b = true ↔ b.WellFormed := by
  simp only [burstValid, Burst.WellFormed, Bool.and_eq_true, beq_iff_eq, decide_eq_true_eq, validMeter_iff,
    and_assoc]

theorem filterPasses_iff (c : Settings) (b : Burst) : filterPasses c b = true ↔ passesFilter c b := by
  simp only [filterPasses, passesFilter, Bool.and_eq_true, beq_iff_eq]

theorem State.onRoute_iff (s : State) (b : Burst) : s.onRoute b = true ↔ s.OnRoute b.meter := by
  unfold State.onRoute State.OnRoute Retained.runningEntryOf
  by_cases h : s.ret.routeState = .running <;> simp [h, Retained.entryOf]

theorem State.contactAvailable_iff (s : State) :
    s.contactAvailable = true ↔
      s.main.contacts.length < 192 ∨ ∃ c ∈ s.main.contacts, c.isCeded = true := by
  rw [State.contactAvailable, Bool.or_eq_true, decide_eq_true_eq, List.any_eq_true, contactLimit]

/-! Each of the checks 1 to 7, where those before it have passed (R10 to R14). -/

section

variable {s : State} {f : Frame}

theorem State.judge_malformedLength (h : f.isExact = false) :
    (s.judge f).disposition = .malformedLength := by
  simp [State.judge, h]

variable (whole : f.isExact = true)
include whole

theorem State.judge_checkFailed (h : burstCheckOk f.bytes = false) :
    (s.judge f).disposition = .checkFailed := by
  simp [State.judge, whole, h]

variable (check : burstCheckOk f.bytes = true)
include check

theorem State.judge_malformed (h : ¬ (decodeBurst f.bytes).WellFormed) :
    (s.judge f).disposition = .malformed := by
  rw [← burstValid_iff, Bool.not_eq_true] at h
  simp [State.judge, whole, check, h]

variable (valid : (decodeBurst f.bytes).WellFormed)
include valid

theorem State.judge_filtered (h : ¬ passesFilter s.main.cfg (decodeBurst f.bytes)) :
    (s.judge f).disposition = .filtered := by
  rw [← burstValid_iff] at valid
  rw [← filterPasses_iff, Bool.not_eq_true] at h
  simp [State.judge, whole, check, valid, h]

variable (passes : passesFilter s.main.cfg (decodeBurst f.bytes))
include passes

theorem State.judge_sagDropped (h : s.main.supply = .sag) : (s.judge f).disposition = .sagDropped := by
  rw [← burstValid_iff] at valid
  rw [← filterPasses_iff] at passes
  simp [State.judge, whole, check, valid, passes, h]

variable (normal : s.main.supply = .normal)
include normal

theorem State.judge_closingDropped (h : s.ret.routeState = .closing) :
    (s.judge f).disposition = .closingDropped := by
  rw [← burstValid_iff] at valid
  rw [← filterPasses_iff] at passes
  simp [State.judge, whole, check, valid, passes, normal, h]

theorem State.judge_strayDropped (route : s.ret.routeState ≠ .closing)
    (off : ¬ s.OnRoute (decodeBurst f.bytes).meter) (h : s.main.cfg.strayCapture = false) :
    (s.judge f).disposition = .strayDropped := by
  rw [← burstValid_iff] at valid
  rw [← filterPasses_iff] at passes
  rw [← State.onRoute_iff, Bool.not_eq_true] at off
  simp [State.judge, whole, check, valid, passes, normal, route, off, h]

end

/-- A burst that passes checks 1 to 7 is judged by its contact, or by whether one can be had (R15, R16). -/
theorem State.judge_of_contact (s : State) (f : Frame) (c : Contact) (h : s.PassesEarlyChecks f)
    (hc : s.contactOf (decodeBurst f.bytes).meter = some c) :
    s.judge f =
      { disposition := (counterTest c.ring (decodeBurst f.bytes)).1, onRoute := s.onRoute (decodeBurst f.bytes),
        split := (counterTest c.ring (decodeBurst f.bytes)).2 } := by
  obtain ⟨whole, check, valid, filter, supply, route, wanted⟩ := h
  rw [← burstValid_iff] at valid
  rw [← filterPasses_iff] at filter
  rw [← State.onRoute_iff] at wanted
  rcases wanted with w | w <;> simp [State.judge, whole, check, valid, filter, supply, route, w, hc]

theorem State.judge_of_no_contact (s : State) (f : Frame) (h : s.PassesEarlyChecks f)
    (hc : s.contactOf (decodeBurst f.bytes).meter = none) :
    s.judge f =
      { disposition := if s.contactAvailable then .accepted else .refusedFull
        onRoute := s.onRoute (decodeBurst f.bytes), split := false } := by
  obtain ⟨whole, check, valid, filter, supply, route, wanted⟩ := h
  rw [← burstValid_iff] at valid
  rw [← filterPasses_iff] at filter
  rw [← State.onRoute_iff] at wanted
  rcases wanted with w | w <;> cases ha : s.contactAvailable <;>
    simp [State.judge, whole, check, valid, filter, supply, route, w, hc, ha]

/-! ## A take -/

/-- The state once a frame has left its slot, with `rest` behind it, and been counted as `d` (R7, R18). -/
def State.counted (s : State) (p : Port) (rest : List Frame) (d : Disposition) : State :=
  (s.begin).setPort p
    { s.main.port p with slots := rest, counters := (s.main.port p).counters.count d }

section

variable (s : State) (p : Port) (rest : List Frame) (d : Disposition)

@[simp] theorem State.counted_ret : (s.counted p rest d).ret = s.ret := rfl
@[simp] theorem State.counted_cfg : (s.counted p rest d).main.cfg = s.main.cfg := by
  simp [State.counted]
@[simp] theorem State.counted_contacts : (s.counted p rest d).main.contacts = s.main.contacts := by
  simp [State.counted]
@[simp] theorem State.counted_peers : (s.counted p rest d).main.peers = s.main.peers := by
  simp [State.counted]
@[simp] theorem State.counted_contactOf (m : MeterId) :
    (s.counted p rest d).contactOf m = s.contactOf m := by
  simp [State.contactOf]

end

/-- A take judges the oldest frame, counts its disposition and hands the burst over (R7). -/
theorem exec_take_of_slots (p : Port) (s : State) (f : Frame) (rest : List Frame)
    (h : (s.main.port p).slots = f :: rest) :
    exec (.take p) s =
      .next ((s.counted p rest (s.judge f).disposition).handOver p f (s.judge f)) := by
  have judged : s.begin.judge f = s.judge f := rfl
  simp only [exec, execTake, done, State.takeFrom, State.begin_main, h, State.countDisposition,
    State.setPort_main, Main.port_setPort, State.setPort_setPort, judged]
  rfl

/-- A burst that is neither ACCEPTED nor a DUPLICATE is not handed on (R17). -/
theorem State.handOver_of_dropped (s : State) (p : Port) (f : Frame) (v : Verdict)
    (hd : v.disposition ≠ .duplicate) (ha : v.disposition ≠ .accepted) : s.handOver p f v = s := by
  rcases v with ⟨d, on, split⟩
  cases d with
  | duplicate => exact absurd rfl hd
  | accepted => exact absurd rfl ha
  | _ => rfl

theorem exec_take_of_dropped (p : Port) (s : State) (f : Frame) (rest : List Frame) (d : Disposition)
    (h : (s.main.port p).slots = f :: rest) (hj : (s.judge f).disposition = d) (hd : d ≠ .duplicate)
    (ha : d ≠ .accepted) : exec (.take p) s = .next (s.counted p rest d) := by
  subst hj
  rw [exec_take_of_slots p s f rest h, State.handOver_of_dropped _ p f _ hd ha]

/-! ## What a take leaves alone -/

theorem State.followRecord_main (s : State) (c : Contact) : (s.followRecord c).main = s.main := by
  unfold State.followRecord
  split
  · rw [State.raise_main, State.write_main]
  · rfl

/-- A claim attempt reaches, of the main domain, the contacts, the queue and the transmitter alone. -/
theorem State.attemptClaim_main (s : State) (m : MeterId) :
    (s.attemptClaim m).main = { s.main with
      contacts := (s.attemptClaim m).main.contacts, queue := (s.attemptClaim m).main.queue
      current := (s.attemptClaim m).main.current } := by
  rcases s.attemptClaim_cases m with
    h | ⟨c, -, -, ⟨-, h⟩ | ⟨-, ⟨k, -, h⟩ | ⟨-, -, h⟩ | ⟨-, -, h⟩⟩⟩
  · rw [h]
  · rw [h]; rfl
  · rw [h]; rfl
  · rw [h, (s.enterHeld_frame c).1]
  · rw [h]
    rcases s.offerClaim_cases c with ⟨-, e⟩ | ⟨-, e⟩
    · rw [e, State.setContact_main, State.offer_frame]
    · rw [e]

theorem State.judgeEligibility_main (s : State) (c : Contact) :
    (s.judgeEligibility c).main = { s.main with
      contacts := (s.judgeEligibility c).main.contacts, queue := (s.judgeEligibility c).main.queue
      current := (s.judgeEligibility c).main.current } := by
  unfold State.judgeEligibility
  split
  · exact s.attemptClaim_main c.meter
  · split
    · rw [State.attemptClaim_main, State.setContact_main]
    · rfl

theorem State.countedArrival_main (s : State) (x : Arrival) :
    (s.countedArrival x).main = { s.main with
      contacts := (s.countedArrival x).main.contacts, queue := (s.countedArrival x).main.queue
      current := (s.countedArrival x).main.current } := by
  unfold State.countedArrival
  split
  · rfl
  · simp only
    rw [State.judgeEligibility_main, State.followRecord_main, State.setContact_main]

/-- An eviction and an insertion reach the contact table alone. -/
theorem State.evict_eq (s : State) :
    s.evict = { s with main := { s.main with contacts := s.evict.main.contacts } } := by
  unfold State.evict
  split
  · rfl
  · split <;> rfl

theorem State.ensureContact_main (s : State) (b : Burst) (t : Nat) (on : Bool) :
    (s.ensureContact b t on).main =
      { s.main with contacts := (s.ensureContact b t on).main.contacts } := by
  unfold State.ensureContact
  split
  · rfl
  · rw [State.addContact_main, State.evict_eq]

theorem State.duplicateArrival_main (s : State) (m : MeterId) (t q : Nat) :
    (s.duplicateArrival m t q).main =
      { s.main with contacts := (s.duplicateArrival m t q).main.contacts } := by
  unfold State.duplicateArrival
  split
  · rfl
  · simp only
    split <;> rfl

/-- A hand-over reaches, of the main domain, the contacts, the queue and the transmitter alone (R17). -/
theorem State.handOver_main (s : State) (p : Port) (f : Frame) (v : Verdict) :
    (s.handOver p f v).main = { s.main with
      contacts := (s.handOver p f v).main.contacts, queue := (s.handOver p f v).main.queue
      current := (s.handOver p f v).main.current } := by
  unfold State.handOver
  simp only
  split
  · rw [State.countedArrival_main, State.ensureContact_main]
  · rw [State.duplicateArrival_main]
  · rfl

theorem State.handOver_port (s : State) (p : Port) (f : Frame) (v : Verdict) (q : Port) :
    (s.handOver p f v).main.port q = s.main.port q := by
  rw [State.handOver_main]
  cases q <;> rfl

/-! ## One disposition for each take -/

/-- A disposition counter that rises raises the sum of the ten by one (R18). -/
theorem PortCounters.taken_count (n : PortCounters) (d : Disposition) :
    (n.count d).taken = n.taken + 1 := by
  cases d <;> simp only [PortCounters.count, PortCounters.taken] <;> ring

/-- Settles O4: the take counts the disposition it judges, and a hand-over reaches no port. -/
theorem takeCountsOneDisposition : Obligations.TakeCountsOneDisposition := by
  unfold Obligations.TakeCountsOneDisposition
  intro p s f rest hs n
  refine ⟨_, n.count (s.judge f).disposition, exec_take_of_slots p s f rest hs, ?_, ?_, ?_, ?_⟩
  · rw [State.handOver_port]
    exact Main.port_setPort ..
  · cases (s.judge f).disposition <;> simp [PortCounters.count]
  · exact PortCounters.taken_count n _
  · intro q hq
    rw [State.handOver_port]
    exact Main.port_setPort_of_ne _ _ _ hq

/-! ## The first failed check -/

/-- The fields of a burst at their positions of section 11.1 (R9, R200). -/
theorem decodeBurst_fields (bytes : List Byte) (h : bytes.length = 15) :
    let burst (i : Nat) : Nat := (byteAt bytes (i + 1)).toNat
    let b := decodeBurst bytes
    b.meter.toNat = burst 0 * 2 ^ 24 + burst 1 * 2 ^ 16 + burst 2 * 2 ^ 8 + burst 3 ∧
      b.version = burst 4 / 16 ∧ b.utility = burst 4 % 16 ∧ b.dials = burst 5 / 16 ∧
      b.reading = burst 5 % 16 * 2 ^ 24 + burst 6 * 2 ^ 16 + burst 7 * 2 ^ 8 + burst 8 ∧
      b.counter = burst 9 ∧ b.resets = burst 10 % 16 ∧ b.flags.toNat = burst 11 % 32 := by
  intro burst b
  have word : beAt bytes 6 4 = burst 5 * 2 ^ 24 + burst 6 * 2 ^ 16 + burst 7 * 2 ^ 8 + burst 8 :=
    beAt_four bytes 6 (by omega)
  have byte (i : Nat) : burst i < 256 := (byteAt bytes (i + 1)).isLt
  have b6 := byte 6
  have b7 := byte 7
  have b8 := byte 8
  refine ⟨?_, rfl, rfl, ?_, ?_, rfl, rfl, ?_⟩
  · calc b.meter.toNat = beAt bytes 1 4 := Nat.mod_eq_of_lt (beAt_lt bytes 1 4)
      _ = _ := beAt_four bytes 1 (by omega)
  · change beAt bytes 6 4 / 2 ^ 28 = _
    omega
  · change beAt bytes 6 4 % 2 ^ 28 = _
    omega
  · exact BitVec.toNat_setWidth ..

/-- The check word of a burst stands in its bytes 12 and 13 (R10). -/
theorem burstCheckOk_iff (bytes : List Byte) (h : bytes.length = 15) :
    burstCheckOk bytes = true ↔
      checkWord ((bytes.drop 1).take 12) = (byteAt bytes 13).toNat * 256 + (byteAt bytes 14).toNat := by
  rw [burstCheckOk, beq_iff_eq, beAt_two bytes 13 (by omega)]

/-- Settles O5: the judgement stops at the first check that holds, and what it drops is not handed on. -/
theorem firstFailedCheckDropsBurst : Obligations.FirstFailedCheckDropsBurst := by
  unfold Obligations.FirstFailedCheckDropsBurst
  refine ⟨?_, ?_⟩
  · intro bytes hlen burst b
    obtain ⟨h1, h2, h3, h4, h5, h6, h7, h8⟩ := decodeBurst_fields bytes hlen
    exact ⟨h1, h2, h3, h4, h5, h6, h7, h8, burstCheckOk_iff bytes hlen⟩
  intro p s f rest hs b n counted
  have dropped (d : Disposition) (hj : (s.judge f).disposition = d) (hd : d ≠ .duplicate)
      (ha : d ≠ .accepted) : exec (.take p) s = counted (n.count d) :=
    exec_take_of_dropped p s f rest d hs hj hd ha
  refine ⟨fun short => ?_, fun whole => ⟨fun check => ?_, fun check => ⟨fun malformed => ?_, fun valid =>
    ⟨fun filtered => ?_, fun passes => ⟨fun sag => ?_, fun normal => ⟨fun closing => ?_, fun route =>
      ⟨fun off stray => ?_, fun wanted full none_ceded => ?_⟩⟩⟩⟩⟩⟩⟩
  · exact dropped _ (State.judge_malformedLength short) (by decide) (by decide)
  · exact dropped _ (State.judge_checkFailed whole check) (by decide) (by decide)
  · exact dropped _ (State.judge_malformed whole check malformed) (by decide) (by decide)
  · exact dropped _ (State.judge_filtered whole check valid filtered) (by decide) (by decide)
  · exact dropped _ (State.judge_sagDropped whole check valid passes sag) (by decide) (by decide)
  · exact dropped _ (State.judge_closingDropped whole check valid passes normal closing)
      (by decide) (by decide)
  · exact dropped _ (State.judge_strayDropped whole check valid passes normal route off stray)
      (by decide) (by decide)
  · have early : s.PassesEarlyChecks f :=
      ⟨whole, check, valid, passes, normal, route, wanted⟩
    have noContact : s.contactOf b.meter = none :=
      (s.contactOf_eq_none_iff b.meter).2 fun c hc => (none_ceded c hc).1
    have unavailable : s.contactAvailable = false := by
      rw [← Bool.not_eq_true, s.contactAvailable_iff]
      rintro (room | ⟨c, hc, ceded⟩)
      · omega
      · simp [(none_ceded c hc).2] at ceded
    exact dropped .refusedFull (by simp [s.judge_of_no_contact f early noContact, unavailable])
      (by decide) (by decide)

end Sys2Proof.Machine
end

section
/-! # The hand-over: duplicates at a known contact, and the first burst of a meter -/

namespace Sys2Proof.Machine

/-! ## Duplicates -/

/-- The counter, reading and flags of the newest ring entry make a burst a DUPLICATE (R16). -/
theorem counterTest_of_same (ring : List RingEntry) (b : Burst) (e : RingEntry)
    (he : ring.getLast? = some e) (hc : e.counter = b.counter) (hr : e.reading = b.reading)
    (hf : e.flags = b.flags) : counterTest ring b = (.duplicate, false) := by
  have step : counterStep b.counter b.counter = 0 := by
    rw [counterStep, Nat.add_sub_cancel_left]
  simp [counterTest, he, hc, hr, hf, step]

/-- A duplicate arrival at a contact that is not HELD changes that contact alone (R30). -/
theorem State.duplicateArrival_of_not_held {s : State} {m : MeterId} {c : Contact} (t q : Nat)
    (hc : s.contactOf m = some c) (hn : ∀ n, c.state ≠ .held n) :
    s.duplicateArrival m t q = s.setContact (s.recordDuplicate c t q) := by
  simp only [State.duplicateArrival, hc]
  split
  · rename_i n hs
    exact absurd hs (hn n)
  · rfl

/-- A duplicate arrival at a HELD contact changes that contact, and its record by one write (R30, R38). -/
theorem State.duplicateArrival_of_held {s : State} {m : MeterId} {c : Contact} {n : Nat} (t q : Nat)
    (hc : s.contactOf m = some c) (hs : c.state = .held n) :
    s.duplicateArrival m t q =
      (s.setContact (s.recordDuplicate c t q)).write fun r =>
        r.updRecord n (Record.followDuplicate r (s.recordDuplicate c t q)) := by
  simp [State.duplicateArrival, hc, State.recordDuplicate, hs]

/-- A take of a DUPLICATE hands it to its contact (R17, R30). -/
theorem exec_take_of_duplicate (p : Port) (s : State) (f : Frame) (rest : List Frame) (c : Contact)
    (e : RingEntry) (hs : (s.main.port p).slots = f :: rest) (early : s.PassesEarlyChecks f)
    (hc : s.contactOf (decodeBurst f.bytes).meter = some c) (he : c.ring.getLast? = some e)
    (hcounter : e.counter = (decodeBurst f.bytes).counter)
    (hreading : e.reading = (decodeBurst f.bytes).reading)
    (hflags : e.flags = (decodeBurst f.bytes).flags) :
    exec (.take p) s = .next ((s.counted p rest .duplicate).duplicateArrival (decodeBurst f.bytes).meter
      f.time (burstQuality f.bytes (portSettings s.main.cfg p).levelOffset)) := by
  have judged := s.judge_of_contact f c early hc
  rw [counterTest_of_same c.ring _ e he hcounter hreading hflags] at judged
  rw [exec_take_of_slots p s f rest hs, judged, ← State.counted_cfg s p rest .duplicate]
  rfl

/-- Settles O6: the burst is handed to its contact as a duplicate arrival, by the contact's state. -/
theorem duplicateReachesQualityAndIdleAlone : Obligations.DuplicateReachesQualityAndIdleAlone := by
  unfold Obligations.DuplicateReachesQualityAndIdleAlone
  intro p s f rest c e hs early hc he hcounter hreading hflags quality heard u
  have taken := exec_take_of_duplicate p s f rest c e hs early hc he hcounter hreading hflags
  have hc' : (s.counted p rest .duplicate).contactOf (decodeBurst f.bytes).meter = some c := by
    rw [State.counted_contactOf, hc]
  have contact : (s.counted p rest .duplicate).setContact ((s.counted p rest .duplicate).recordDuplicate c
      f.time (burstQuality f.bytes (portSettings s.main.cfg p).levelOffset)) = u := by
    rw [State.recordDuplicate, State.counted_cfg]
    rfl
  refine ⟨fun hn => ?_, fun q hq => ?_⟩
  · rw [taken, State.duplicateArrival_of_not_held _ _ hc' hn, contact]
  · rw [taken, State.duplicateArrival_of_held _ _ hc' hq, contact]
    refine congrArg (fun g => Host.Outcome.next (u.write g)) (funext fun r => ?_)
    refine congrArg (fun l => ({ r with log := l } : Retained)) (List.map_congr_left fun x _ => ?_)
    refine if_congr Iff.rfl ?_ rfl
    rcases x with ⟨_, _, _, _, _, body⟩
    cases body <;> rfl

/-! ## A new contact in the table -/

/-- A change that keeps the keys may be made before or after an insertion. -/
theorem map_insertBy {α : Type} (key : α → Nat) (f : α → α) (x : α) (l : List α) (hx : key (f x) = key x)
    (hl : ∀ y ∈ l, key (f y) = key y) : (insertBy key x l).map f = insertBy key (f x) (l.map f) := by
  induction l with
  | nil => rfl
  | cons y ys ih =>
    have hy : key (f y) = key y := hl y (by simp)
    have rest := ih fun z hz => hl z (by simp [hz])
    simp only [List.map_cons, insertBy, hx, hy]
    split
    · rfl
    · rw [List.map_cons, rest]

/-- The only element of a table that a search asks for is found, wherever it stands. -/
theorem find?_insertBy {α : Type} (key : α → Nat) (p : α → Bool) (x : α) (l : List α) (hx : p x = true)
    (hl : ∀ y ∈ l, p y = false) : (insertBy key x l).find? p = some x := by
  induction l with
  | nil => simp [insertBy, hx]
  | cons y ys ih =>
    have hy : p y = false := hl y (by simp)
    have rest := ih fun z hz => hl z (by simp [hz])
    unfold insertBy
    split
    · simp [hx]
    · simp [hy, rest]

/-- A contact put into a table that holds none of its meter is the one found there. -/
theorem State.contactOf_addContact (s : State) (c : Contact)
    (h : ∀ x ∈ s.main.contacts, x.meter ≠ c.meter) : (s.addContact c).contactOf c.meter = some c :=
  find?_insertBy _ _ c s.main.contacts (by simp) fun x hx => by simpa using h x hx

/-- A contact just put into the table, replaced by another of its meter, is that other put into the table. -/
theorem State.setContact_addContact (s : State) (c c' : Contact)
    (h : ∀ x ∈ s.main.contacts, x.meter ≠ c.meter) (hm : c'.meter = c.meter) :
    (s.addContact c).setContact c' = s.addContact c' := by
  have others : s.main.contacts.map (fun x => if x.meter = c'.meter then c' else x) = s.main.contacts :=
    (List.map_congr_left fun x hx => if_neg (hm ▸ h x hx)).trans (List.map_id' _)
  have keeps : ∀ x : Contact, (if x.meter = c'.meter then c' else x).meter.toNat = x.meter.toNat := by
    intro x
    split
    · rename_i e
      rw [e]
    · rfl
  have replaced := map_insertBy (fun x : Contact => x.meter.toNat)
    (fun x => if x.meter = c'.meter then c' else x) c s.main.contacts (keeps c) fun y _ => keeps y
  rw [others, if_pos hm.symm] at replaced
  rw [State.setContact, State.addContact_main, replaced]
  rfl

theorem State.evict_contacts_subset (s : State) : s.evict.main.contacts ⊆ s.main.contacts := by
  unfold State.evict
  split
  · exact List.Subset.refl _
  · split
    · exact List.filter_subset_self _
    · exact List.Subset.refl _

@[simp] theorem State.evict_ret (s : State) : s.evict.ret = s.ret := by rw [State.evict_eq]
@[simp] theorem State.evict_cfg (s : State) : s.evict.main.cfg = s.main.cfg := by rw [State.evict_eq]

/-! ## The first counted arrival -/

@[simp] theorem State.counted_initialStanding (s : State) (p : Port) (rest : List Frame) (d : Disposition)
    (m : MeterId) (on : Bool) :
    (s.counted p rest d).initialStanding m on = s.initialStanding m on := by
  simp only [State.initialStanding, State.peerPresent, State.counted_ret, State.counted_peers]
  rfl

/-- The evaluation at an empty ring, off the route: there is nothing to compare with (R56). -/
theorem State.evaluate_first_stray (s : State) (c : Contact) (x : Arrival) (hr : c.ring = [])
    (hx : x.onRoute = false) :
    s.evaluate c x = { findings := 0, direction := none, measures := none } := by
  unfold State.evaluate
  split <;> simp [hr, hx, evalStray, evalAgainst]

/-- The evaluation at an empty ring of a contact without STRAY, on the route (R41, R42). -/
theorem State.evaluate_first_onRoute (s : State) (c : Contact) (x : Arrival) (e : RouteEntry)
    (hr : c.ring = []) (hx : x.onRoute = true) (hc : c.stray = false) (he : s.ret.entryOf c.meter = some e) :
    s.evaluate c x = evalFull
      { n := x.burst.reading, d := x.burst.dials, k := x.burst.resets, p := e.p, dr := e.dr, a := e.a,
        c := e.c, b := e.b, kr := e.kr, z := e.z, v := none, t := s.ret.routeClock,
        s := s.main.cfg.stallAge } := by
  simp [State.evaluate, hr, hx, hc, he]

/-- The contact that the first burst of a meter leaves before its eligibility is judged (R23, R25, R26, R29): `o` is
the level offset of its port, and `r` the evaluation. -/
def firstContact (cfg : Settings) (o : Nat) (f : Frame) (standing : ContactState) (stray reread : Bool)
    (r : EvalResult) : Contact :=
  let b := decodeBurst f.bytes
  { meter := b.meter, utility := b.utility, state := standing, firstArrival := f.time,
    lastArrival := f.time, bestQuality := min (byteAt f.bytes 0).toNat 63 - o, arrivals := 1,
    ring := [{ time := f.time, counter := b.counter, reading := b.reading, flags := b.flags }],
    reading := b.reading, dials := b.dials, resets := b.resets, flags := b.flags,
    findings := b.flags.setWidth 12 ||| r.findings, measures := r.measures, stray := stray,
    reread := reread, noroom := false, solo := false, eligible := false, idlePending := false,
    idle := some (cfg.idleTimeout * 1000), holdOff := some (cfg.holdOff * 100), settle := none }

/-- A new contact that takes its burst as a first counted arrival; one arrival is no chatter (R26 to R29). -/
theorem State.recordArrival_newContact (s u : State) (f : Frame) (q : Nat) (on : Bool)
    (standing : ContactState) (stray reread : Bool) (r : EvalResult) (o : Nat)
    (hq : q = min (byteAt f.bytes 0).toNat 63 - o) (hcfg : u.main.cfg = s.main.cfg)
    (hlimit : 1 ≤ s.main.cfg.limit)
    (hst : s.initialStanding (decodeBurst f.bytes).meter on = (standing, stray, reread)) :
    let c := s.newContact (decodeBurst f.bytes) f.time on
    let x : Arrival :=
      { time := f.time, quality := q, burst := decodeBurst f.bytes, onRoute := on, split := false }
    u.evaluate c x = r → u.recordArrival c x = firstContact s.main.cfg o f standing stray reread r := by
  intro c x hr
  have calm : findingIf (decide (u.main.cfg.limit < chatterCount c.ring x.time u.main.cfg.window)) .chatter = 0 := by
    have one : chatterCount c.ring x.time u.main.cfg.window = 1 := rfl
    have low : ¬ u.main.cfg.limit < 1 := by
      rw [hcfg]
      omega
    simp [findingIf, one, low]
  have gained : u.arrivalFindings c x = (decodeBurst f.bytes).flags.setWidth 12 ||| r.findings := by
    rw [State.arrivalFindings, hr, calm]
    simp [findingIf, findingsOfFlags, x]
  rw [State.recordArrival, gained, hr, hcfg]
  simp [c, x, State.newContact, hst, firstContact, hq, pushRing, ringLimit, max16, startTimer]

/-- A contact that is not HELD, just put into the table, takes its first counted arrival: it waits for its
eligibility, or with hold-off 0 is eligible at once and makes its claim attempt (R34, R35). -/
theorem State.countedArrival_addContact (s : State) (c c' : Contact) (x : Arrival)
    (absent : ∀ y ∈ s.main.contacts, y.meter ≠ c.meter) (hx : x.burst.meter = c.meter)
    (hc' : (s.addContact c).recordArrival c x = c') (hn : ∀ q, c'.state ≠ .held q)
    (hm : c'.meter = c.meter) (he : c'.eligible = false) (ha : c'.arrivals = 1) :
    (s.addContact c).countedArrival x =
      if s.main.cfg.holdOff = 0 then (s.addContact c'.nowEligible).attemptClaim c.meter
      else s.addContact c' := by
  have follow : (s.addContact c').followRecord c' = s.addContact c' := by
    unfold State.followRecord
    split
    · rename_i q hq
      exact absurd hq (hn q)
    · rfl
  have absent' : ∀ y ∈ s.main.contacts, y.meter ≠ c'.meter := fun y hy => hm ▸ absent y hy
  have waits : ¬ 2 ≤ c'.arrivals := by omega
  simp only [State.countedArrival, hx, State.contactOf_addContact s c absent, hc',
    State.setContact_addContact s c c' absent hm, follow, State.judgeEligibility, he, State.becomesEligible,
    waits, State.addContact_main,
    State.setContact_addContact s c' c'.nowEligible absent' rfl]
  by_cases h0 : s.main.cfg.holdOff = 0
  · simp [h0, hm, Contact.nowEligible]
  · simp [h0]

/-- The take of the first burst of a meter, by the standing R25 gives its contact and by its evaluation. -/
theorem exec_take_of_first (p : Port) (s : State) (f : Frame) (rest : List Frame)
    (standing : ContactState) (stray reread : Bool) (r : EvalResult)
    (hs : (s.main.port p).slots = f :: rest) (early : s.PassesEarlyChecks f)
    (absent : ∀ c ∈ s.main.contacts, c.meter ≠ (decodeBurst f.bytes).meter)
    (available : s.main.contacts.length < 192 ∨ ∃ c ∈ s.main.contacts, c.isCeded = true)
    (hlimit : 1 ≤ s.main.cfg.limit)
    (hst : s.initialStanding (decodeBurst f.bytes).meter (s.onRoute (decodeBurst f.bytes)) =
      (standing, stray, reread))
    (hn : ∀ q, standing ≠ .held q)
    (hr : ∀ (u : State) (c : Contact) (x : Arrival), u.ret = s.ret → u.main.cfg = s.main.cfg →
      c.meter = (decodeBurst f.bytes).meter → c.ring = [] → c.stray = stray →
      x.burst = decodeBurst f.bytes → x.onRoute = s.onRoute (decodeBurst f.bytes) → u.evaluate c x = r) :
    let roomed := (s.counted p rest .accepted).evict
    let c := firstContact s.main.cfg (portSettings s.main.cfg p).levelOffset f standing stray reread r
    (s.main.cfg.holdOff ≠ 0 → exec (.take p) s = .next (roomed.addContact c)) ∧
    (s.main.cfg.holdOff = 0 → exec (.take p) s =
      .next ((roomed.addContact c.nowEligible).attemptClaim (decodeBurst f.bytes).meter)) := by
  intro roomed c
  have noContact := (s.contactOf_eq_none_iff _).2 absent
  have judged : s.judge f =
      { disposition := .accepted, onRoute := s.onRoute (decodeBurst f.bytes), split := false } := by
    rw [s.judge_of_no_contact f early noContact, if_pos (s.contactAvailable_iff.2 available)]
  have fits : (s.counted p rest .accepted).initialStanding (decodeBurst f.bytes).meter
      (s.onRoute (decodeBurst f.bytes)) = (standing, stray, reread) := by
    rw [State.counted_initialStanding, hst]
  have absent' : ∀ x ∈ roomed.main.contacts, x.meter ≠ (decodeBurst f.bytes).meter := fun x hx =>
    absent x (State.counted_contacts s p rest .accepted ▸ State.evict_contacts_subset _ hx)
  let c₀ := (s.counted p rest .accepted).newContact (decodeBurst f.bytes) f.time
    (s.onRoute (decodeBurst f.bytes))
  let x : Arrival :=
    { time := f.time, quality := burstQuality f.bytes (portSettings s.main.cfg p).levelOffset,
      burst := decodeBurst f.bytes, onRoute := s.onRoute (decodeBurst f.bytes), split := false }
  have taken : exec (.take p) s = .next ((roomed.addContact c₀).countedArrival x) := by
    rw [exec_take_of_slots p s f rest hs, judged]
    simp only [State.handOver, State.ensureContact, State.counted_contactOf, noContact, State.counted_cfg]
    rfl
  have stray₀ : c₀.stray = stray := congrArg (fun y => y.2.1) fits
  have cfg : (roomed.addContact c₀).main.cfg = s.main.cfg := by simp [roomed]
  have recorded : (roomed.addContact c₀).recordArrival c₀ x = c := by
    have evaluated := hr (roomed.addContact c₀) c₀ x (by simp [roomed]) cfg rfl rfl stray₀ rfl rfl
    have first := State.recordArrival_newContact (s.counted p rest .accepted) (roomed.addContact c₀) f x.quality
      x.onRoute standing stray reread r (portSettings s.main.cfg p).levelOffset rfl
      (by rw [cfg, State.counted_cfg]) (by rwa [State.counted_cfg]) fits evaluated
    rwa [State.counted_cfg] at first
  have holdOff : roomed.main.cfg.holdOff = s.main.cfg.holdOff := by simp [roomed]
  rw [taken, State.countedArrival_addContact roomed c₀ c x absent' rfl recorded hn rfl rfl rfl, holdOff]
  exact ⟨fun h => by rw [if_neg h], fun h => by rw [if_pos h]; rfl⟩

/-! ## The standing of a new contact -/

/-- The standing R25 gives a new contact, by the meter's entry. -/
theorem State.initialStanding_offRoute (s : State) (m : MeterId) :
    s.initialStanding m false = (.listening, true, false) := rfl

section

variable {s : State} {m : MeterId} {e : RouteEntry} (he : s.ret.entryOf m = some e)
include he

theorem State.initialStanding_readHere (h : e.state = .readHere) :
    s.initialStanding m true = (.listening, false, true) := by
  simp [State.initialStanding, he, h]

theorem State.initialStanding_readPeer {n q : Nat} (h : e.state = .readPeer n q) :
    s.initialStanding m true =
      if s.peerPresent n then (.ceded { station := n, quality := q, hold := .held }, false, false)
      else (.listening, false, false) := by
  simp [State.initialStanding, he, h]

theorem State.initialStanding_other (hh : e.state ≠ .readHere) (hp : e.isReadPeer = false) :
    s.initialStanding m true = (.listening, false, false) := by
  rcases h : e.state <;> simp [State.initialStanding, he, h, RouteEntry.isReadPeer] at hh hp ⊢

end

theorem State.peerPresent_iff (s : State) (n : Nat) :
    s.peerPresent n = true ↔ ∃ x ∈ s.main.peers, x.station = n ∧ x.presence = .present := by
  simp [State.peerPresent]

/-- Settles O7: the standing and the evaluation of the first burst follow the meter's entry. -/
theorem firstStrayBurstCreatesContact : Obligations.FirstStrayBurstCreatesContact := by
  unfold Obligations.FirstStrayBurstCreatesContact
  intro p s f rest hs early absent available hlimit b counted roomed fresh enters
  have evicted : roomed = (s.counted p rest .accepted).evict := by
    simp only [State.evict, State.counted_contacts]
    rfl
  have entered (standing : ContactState) (stray reread : Bool) (r : EvalResult)
      (hst : s.initialStanding b.meter (s.onRoute b) = (standing, stray, reread))
      (hn : ∀ q, standing ≠ .held q)
      (hr : ∀ (u : State) (c : Contact) (x : Arrival), u.ret = s.ret → u.main.cfg = s.main.cfg →
        c.meter = b.meter → c.ring = [] → c.stray = stray → x.burst = b → x.onRoute = s.onRoute b →
        u.evaluate c x = r) : enters (fresh standing stray reread r) := by
    have first := exec_take_of_first p s f rest standing stray reread r hs early absent available hlimit hst hn hr
    rw [← evicted] at first
    exact first
  refine ⟨fun off => ?_, ?_⟩
  · have onRoute : s.onRoute b = false := by
      rw [← Bool.not_eq_true, State.onRoute_iff]
      rintro ⟨running, e, he, hm⟩
      rcases off with none_listed | not_running
      · exact none_listed e he hm
      · exact not_running running
    refine entered _ _ _ _ (onRoute ▸ s.initialStanding_offRoute b.meter) (by simp) ?_
    intro u c x _ _ _ hring _ _ hx
    exact u.evaluate_first_stray c x hring (hx.trans onRoute)
  · intro e running he r present
    have onRoute : s.onRoute b = true := by
      simp [State.onRoute, Retained.runningEntryOf, running, he]
    have full (standing : ContactState) (reread : Bool) (hn : ∀ q, standing ≠ .held q)
        (hst : s.initialStanding b.meter true = (standing, false, reread)) :
        enters (fresh standing false reread r) := by
      refine entered standing false reread r (by rw [onRoute, hst]) hn ?_
      intro u c x hret hcfg hm hring hstray hb hx
      have listed : u.ret.entryOf c.meter = some e := by rw [hret, hm, he]
      rw [u.evaluate_first_onRoute c x e hring (hx.trans onRoute) hstray listed, hb, hret, hcfg]
    refine ⟨fun here => ?_, fun n q peer => ⟨fun h => ?_, fun h => ?_⟩, fun not_here not_peer => ?_⟩
    · exact full _ _ (by simp) (State.initialStanding_readHere he here)
    · refine full _ _ (by simp) ((State.initialStanding_readPeer he peer).trans (if_pos ?_))
      exact (s.peerPresent_iff n).2 h
    · refine full _ _ (by simp) ((State.initialStanding_readPeer he peer).trans (if_neg ?_))
      exact fun k => h ((s.peerPresent_iff n).1 k)
    · exact full _ _ (by simp) (State.initialStanding_other he not_here not_peer)

end Sys2Proof.Machine
end

section
/-! # Clearing: the contact table, the drain and the alert marks, at entry to PARKED and at a station reset -/

namespace Sys2Proof.Machine

/-! ## A post of another station -/

theorem State.TakesFrom.src_ne_zero {s : State} {src : BitVec 4} (h : s.TakesFrom src) : src.toNat ≠ 0 := by
  obtain ⟨-, other, -⟩ := h
  exact BitVec.toNat_ne.1 other

/-- An addressed post of another station is acted on from the state that has heard it (R85, R87, R96, R188). -/
theorem State.hearAddressed_of_takesFrom (s : State) (src : BitVec 4) (role : Role) (act : State → State)
    (h : s.TakesFrom src) : (s.begin).hearAddressed src.toNat role act = act (s.hearing src role) := by
  have ne := h.src_ne_zero
  obtain ⟨receives, -, foreign⟩ := h
  exact State.hear_of_takesFrom s.begin src.toNat role _ receives ne foreign

theorem State.hearQuery_of_takesFrom (s : State) (src : BitVec 4) (role : Role) (act : State → State)
    (h : s.TakesFrom src) (hr : role ≠ .collector) :
    (s.begin).hearQuery src.toNat role act = act (s.hearing src role) := by
  have ne := h.src_ne_zero
  obtain ⟨receives, -, foreign⟩ := h
  have heard := State.hear_of_takesFrom s.begin src.toNat role
    (fun t => if role = .collector then t else act t.restartParkReturn) receives
    ne foreign
  rw [if_neg hr] at heard
  exact heard

/-- A post is received outside PARKED alone (R85). -/
theorem State.park_of_takesFrom {s : State} {src : BitVec 4} (h : s.TakesFrom src) :
    s.main.park ≠ .parked := by
  obtain ⟨receives, -, -⟩ := h
  intro parked
  simp [State.receives, State.receptive, State.awake, parked] at receives

theorem State.restartParkReturn_eq (s : State) :
    s.restartParkReturn =
      { s with main := { s.main with parkReturn := s.restartParkReturn.main.parkReturn } } := by
  unfold State.restartParkReturn
  split <;> rfl

/-- Hearing an addressed post reaches the line, the peer table and the park-return timer alone. -/
theorem State.hearing_eq (s : State) (src : BitVec 4) (role : Role) :
    s.hearing src role =
      { s with
        journal := []
        pins := { s.pins with line := .quiet }
        main := { s.main with
          peers := (s.hearing src role).main.peers
          parkReturn := (s.hearing src role).main.parkReturn } } := by
  rw [State.hearing, State.restartParkReturn_eq]
  rfl

theorem State.hearing_park (s : State) (src : BitVec 4) (role : Role) :
    (s.hearing src role).main.park = s.main.park := by
  rw [State.hearing_eq]

/-! ## The contact table cleared -/

theorem isClaimingClaim_iff (m : MeterId) (b : PostBody) :
    isClaimingClaim m b = true ↔ ∃ q, b = .claim m q .claiming := by
  cases b with
  | claim x q hold => cases hold <;> simp [isClaimingClaim]
  | _ => simp [isClaimingClaim]

/-- The CLAIMs that the clearing withdraws (R39). -/
theorem State.ownsClaim_iff (s : State) (b : PostBody) :
    s.ownsClaim b = true ↔
      ∃ c ∈ s.main.contacts, c.state = .claiming ∧ ∃ q, b = .claim c.meter q .claiming := by
  simp [State.ownsClaim, isClaimingClaim_iff]

theorem State.clearContacts_main (s : State) :
    s.clearContacts.main = { (s.withdraw s.ownsClaim).main with contacts := [] } := by
  obtain ⟨main, -⟩ := State.foldl_write_frame (fun q r => r.updRecord q Record.close) s.heldSeqs s
  simp [State.clearContacts, State.withdraw_main, main]

/-- The clearing closes a record exactly when a HELD contact owns it. -/
theorem State.mem_heldSeqs {s : State} {x : Record} (h : x ∈ s.ret.log) :
    x.seq ∈ s.heldSeqs ↔ ∃ c ∈ s.main.contacts, c.state = .held x.seq := by
  simp only [State.heldSeqs, List.mem_map, List.mem_filter, List.any_eq_true, Contact.holds, beq_iff_eq]
  constructor
  · rintro ⟨y, ⟨-, hc⟩, e⟩
    rwa [e] at hc
  · exact fun hc => ⟨x, ⟨h, hc⟩, rfl⟩

theorem State.clearContacts_ret (s : State) :
    s.clearContacts.ret = { s.ret with log := s.ret.log.map fun x =>
      { x with openState :=
          if ∃ c ∈ s.main.contacts, c.state = .held x.seq then .closed else x.openState } } := by
  obtain ⟨-, ret, -⟩ := s.clearContacts_frame
  rw [ret]
  refine congrArg (fun l => ({ s.ret with log := l } : Retained)) (List.map_congr_left fun x hx => ?_)
  simp only [State.mem_heldSeqs hx]
  split <;> rfl

/-! ## A drain ended early -/

/-- An early end of a drain returns the batch to UNSENT (R166) and touches nothing else outside the main domain. -/
theorem State.endDrain_ret (s : State) :
    s.endDrain.ret = { s.ret with log := s.ret.log.map fun x =>
      { x with mark :=
          if s.main.drain.state ≠ .idle ∧ x.seq ∈ s.main.drain.batch then .unsent else x.mark } } := by
  unfold State.endDrain
  split
  · rename_i idle
    simp [idle]
  · rename_i busy
    simp only [State.setDrain_ret, State.clearBatch_ret]
    refine congrArg (fun l => ({ s.ret with log := l } : Retained)) (List.map_congr_left fun x _ => ?_)
    by_cases member : x.seq ∈ s.main.drain.batch <;> simp [busy, member, Record.withMark]

theorem State.endDrain_frame (s : State) :
    s.endDrain.powered = s.powered ∧ s.endDrain.backup = s.backup ∧ s.endDrain.pins = s.pins ∧
      s.endDrain.pending = s.pending := by
  obtain ⟨-, powered, backup, pins, pending⟩ :=
    State.clearDrainPost_frame (s.markAll .unsent s.main.drain.batch)
  unfold State.endDrain
  split
  · exact ⟨rfl, rfl, rfl, rfl⟩
  · simp [State.clearBatch, powered, backup, pins, pending]

theorem Main.drainEnded_state (m : Main) : m.drainEnded.drain.state = .idle := by
  unfold Main.drainEnded
  split
  · assumption
  · rfl

theorem Main.drainEnded_queue_subset (m : Main) : m.drainEnded.queue ⊆ m.queue := by
  unfold Main.drainEnded Main.withoutDrainPost
  split
  · exact List.Subset.refl _
  · dsimp only
    split
    · exact List.filter_subset_self _
    · exact List.Subset.refl _

/-- The end of a drain reaches neither the contact table nor a port. -/
theorem Main.drainEnded_cleared (m : Main) (cs : List Contact) (a b : PortState) :
    ({ m with contacts := cs, portA := a, portB := b } : Main).drainEnded =
      { m.drainEnded with contacts := cs, portA := a, portB := b } := by
  unfold Main.drainEnded
  split <;> rfl

/-! ## Entry to PARKED -/

theorem LinkLine.cut_eq (l : LinkLine) : l.cut = if l = .heard then .missed else l := by
  cases l <;> rfl

/-- Entry to PARKED on the main domain (R6, R39, R178, R186). -/
theorem State.enterParked_main (u : State) :
    u.enterParked.main = { (u.withdraw u.ownsClaim).main.drainEnded with
      contacts := [], park := .parked, wakeSettle := none, parkReturn := none
      portA := { u.main.portA with slots := [], receiving := none }
      portB := { u.main.portB with slots := [], receiving := none } } := by
  have flushed : u.clearContacts.flushPorts.main = { (u.withdraw u.ownsClaim).main with
      contacts := [], portA := u.main.portA.flush, portB := u.main.portB.flush } := by
    rw [State.flushPorts_main, State.clearContacts_main]
    rfl
  rw [State.enterParked, State.stopHearing_main, State.setPark_main, State.endDrain_main, flushed,
    Main.drainEnded_cleared]
  rfl

/-- Entry to PARKED closes the records of HELD contacts and returns the batch to UNSENT (R39, R166, R178). -/
theorem State.enterParked_ret (u : State) :
    u.enterParked.ret = { u.ret with log := u.ret.log.map fun x =>
      { x with
        openState := if ∃ c ∈ u.main.contacts, c.state = .held x.seq then .closed else x.openState
        mark := if u.main.drain.state ≠ .idle ∧ x.seq ∈ u.main.drain.batch then .unsent else x.mark } } := by
  have drain : u.clearContacts.flushPorts.main.drain = u.main.drain := by
    rw [State.flushPorts_main, State.clearContacts_main]
    rfl
  rw [State.enterParked, State.stopHearing_ret, State.setPark_ret, State.endDrain_ret, drain,
    State.flushPorts_ret, State.clearContacts_ret]
  simp only [List.map_map]
  rfl

/-- No CLAIMING CLAIM of a contact that was CLAIMING is left in the queue (R39). -/
theorem State.enterParked_no_claim (u : State) (c : Contact) (hc : c ∈ u.main.contacts)
    (hs : c.state = .claiming) (q : Nat) (p : Post) (hp : p ∈ u.enterParked.main.queue) :
    p.body ≠ .claim c.meter q .claiming := by
  intro body
  rw [State.enterParked_main] at hp
  have kept : p ∈ (u.withdraw u.ownsClaim).main.queue := Main.drainEnded_queue_subset _ hp
  obtain ⟨-, notOwned⟩ := (u.mem_withdraw_queue _ p).1 kept
  have owned := (u.ownsClaim_iff p.body).2 ⟨c, hc, hs, q, body⟩
  simp [owned] at notOwned

theorem State.enterParked_frame (u : State) :
    u.enterParked.powered = u.powered ∧ u.enterParked.backup = u.backup ∧
      u.enterParked.pending = u.pending ∧
      u.enterParked.pins = { u.pins with line := if u.pins.line = .heard then .missed else u.pins.line } := by
  obtain ⟨-, -, powered, pins, pending⟩ := u.clearContacts_frame
  obtain ⟨powered', backup', pins', pending'⟩ := State.endDrain_frame u.clearContacts.flushPorts
  simp [State.enterParked, powered, pins, pending, powered', backup', pins', pending', LinkLine.cut_eq]

/-- Settles O44: each of the four events makes the same entry to PARKED, from its own state. -/
theorem entryToParkedClearsContactsPortsAndDrain :
    Obligations.EntryToParkedClearsContactsPortsAndDrain := by
  unfold Obligations.EntryToParkedClearsContactsPortsAndDrain
  intro parked
  have entered (u : State) : parked u u.enterParked :=
    ⟨u.enterParked_main, u.enterParked_ret, by rw [u.enterParked_main]; exact Main.drainEnded_state _,
      u.enterParked_no_claim, u.enterParked_frame⟩
  refine ⟨State.ownsClaim_iff, ?_, ?_, ?_, ?_⟩
  · intro s powered run
    refine ⟨(s.begin.setIgn false).enterParked, ?_, entered (s.begin.setIgn false)⟩
    simp [exec, execIgnFallingEdge, done, State.ignFell, powered, run]
  · intro src s takes
    have stays : (s.hearing src .console).main.park ≠ .parked :=
      s.hearing_park src .console ▸ State.park_of_takesFrom takes
    refine ⟨_, ?_, entered (s.hearing src .console)⟩
    simp only [exec, execPark, done, s.hearAddressed_of_takesFrom src .console _ takes, State.parkPost,
      if_neg stays]
  · intro s left running
    refine ⟨_, ?_, entered ((s.begin).passTime left)⟩
    simp [exec, execParkReturnExpiry, done, State.parkReturnExpired, running]
  · intro s elsewhere
    simp [exec, execIgnFallingEdge, done, State.ignFell, elsewhere]
    rfl

/-! ## Station reset -/

/-- SLOTTED records return to PENDING (R69), and nothing else of the retained domain moves. -/
theorem State.returnSlotted_ret (s : State) :
    s.returnSlotted.ret = { s.ret with log := s.ret.log.map fun x =>
      { x with alert :=
          if ∃ y ∈ s.ret.log, y.seq = x.seq ∧ y.alert = .slotted then .pending else x.alert } } := by
  obtain ⟨-, -, -, -, ret⟩ := State.foldl_write_frame
    (fun (x : Record) r => r.updRecord x.seq (Record.withAlert .pending))
    (s.ret.log.filter fun x => x.alert == .slotted) s
  rw [State.returnSlotted, ret, ← List.foldl_map (f := Record.seq)
    (g := fun r q => Retained.updRecord r q (Record.withAlert .pending)),
    Retained.foldl_updRecord (Record.withAlert .pending) (fun _ => rfl) (fun _ => rfl)]
  refine congrArg (fun l => ({ s.ret with log := l } : Retained)) (List.map_congr_left fun x _ => ?_)
  have slotted : x.seq ∈ (s.ret.log.filter fun x => x.alert == .slotted).map Record.seq ↔
      ∃ y ∈ s.ret.log, y.seq = x.seq ∧ y.alert = .slotted := by
    simp only [List.mem_map, List.mem_filter, beq_iff_eq]
    exact ⟨fun ⟨y, ⟨hy, ha⟩, hq⟩ => ⟨y, hy, hq, ha⟩, fun ⟨y, hy, hq, ha⟩ => ⟨y, ⟨hy, ha⟩, hq⟩⟩
  simp only [slotted]
  split <;> rfl

theorem State.returnSlotted_frame (s : State) :
    s.returnSlotted.main = s.main ∧ s.returnSlotted.powered = s.powered ∧
      s.returnSlotted.backup = s.backup ∧ s.returnSlotted.pins = s.pins ∧
      s.returnSlotted.pending = s.pending := by
  obtain ⟨main, powered, pins, pending, -⟩ := State.foldl_write_frame
    (fun (x : Record) r => r.updRecord x.seq (Record.withAlert .pending))
    (s.ret.log.filter fun x => x.alert == .slotted) s
  exact ⟨main, powered, State.foldl_write_backup _ _ s, pins, pending⟩

/-- A STATUS offered to an empty queue beside no current post is the only post (R81, R90). -/
theorem State.offerStatus_of_empty (s : State) (hq : s.main.queue = []) (hc : s.main.current = none) :
    s.offerStatus = { s with main := { s.main with
      queue := [{ mask := maskAll, body := .status }]
      statusTimer := some (s.main.cfg.statusInterval * 1000) } } := by
  simp [State.offerStatus, State.offer, State.takesOffer, hq, hc, queueLimit, startTimer]

/-- A station reset on the retained domain (R39, R69, R178). -/
theorem State.stationReset_ret (u : State) :
    u.stationReset.ret = { u.ret with log := u.ret.log.map fun x =>
      { x with
        openState := if ∃ c ∈ u.main.contacts, c.state = .held x.seq then .closed else x.openState
        mark := if x.seq ∈ u.main.drain.batch then .unsent else x.mark
        alert := if ∃ y ∈ u.ret.log, y.seq = x.seq ∧ y.alert = .slotted then .pending else x.alert } } := by
  have slotted (q : Nat) : (∃ y ∈ u.clearContacts.ret.log, y.seq = q ∧ y.alert = .slotted) ↔
      ∃ y ∈ u.ret.log, y.seq = q ∧ y.alert = .slotted := by
    simp [State.clearContacts_ret]
  rw [State.stationReset, State.offerStatus_ret]
  simp only [State.markAll_ret, State.returnSlotted_ret, slotted]
  simp only [State.clearContacts_ret, List.map_map]
  refine congrArg (fun l => ({ u.ret with log := l } : Retained)) (List.map_congr_left fun x _ => ?_)
  simp only [Function.comp]
  split <;> rfl

/-- A station reset on the main domain (R197). -/
theorem State.stationReset_main (u : State) :
    u.stationReset.main = { resetMain u.main with
      queue := [{ mask := maskAll, body := .status }]
      statusTimer := some (u.main.cfg.statusInterval * 1000) } := by
  obtain ⟨returned, -⟩ := State.returnSlotted_frame u.clearContacts
  rw [State.stationReset, State.offerStatus_of_empty _ rfl rfl]
  simp only [State.markAll_main, returned, State.clearContacts_main]
  rfl

theorem State.stationReset_frame (u : State) :
    u.stationReset.powered = u.powered ∧ u.stationReset.backup = u.backup ∧
      u.stationReset.pins = u.pins ∧ u.stationReset.pending = u.pending := by
  obtain ⟨-, -, powered, pins, pending⟩ := u.clearContacts_frame
  obtain ⟨-, powered', backup', pins', pending'⟩ := State.returnSlotted_frame u.clearContacts
  simp [State.stationReset, powered, pins, pending, powered', backup', pins', pending']

/-- Settles O49: the reset acts on the state that has heard its post, which has the contacts, the batch and the log
of the state before. -/
theorem stationResetClearsAndKeeps : Obligations.StationResetClearsAndKeeps := by
  unfold Obligations.StationResetClearsAndKeeps
  intro src role s takes hrole u
  have heard : u = _ := s.hearing_eq src role
  obtain ⟨powered, backup, pins, pending⟩ := u.stationReset_frame
  refine ⟨u.stationReset, ?_, ?_, ?_, ?_, ?_, pins, ?_⟩
  · simp only [exec, execReset, done, s.hearQuery_of_takesFrom src role _ takes hrole, u]
  · rw [State.stationReset_ret, heard]
  · rw [State.stationReset_main, heard]
    rfl
  · rw [powered, heard]
  · rw [backup, heard]
  · rw [pending, heard]

end Sys2Proof.Machine
end

section
/-! # The state right after reset -/

namespace Sys2Proof.Machine

/-- No write has been made right after reset: what holds of the retained domain holds of every one a loss can leave. -/
theorem State.reset_everyRetained (P : Retained → Prop) (h : P State.reset.ret) : State.reset.EveryRetained P :=
  ⟨h, fun _ hr => absurd hr List.not_mem_nil⟩

theorem State.reset_linkSound : State.reset.main.LinkSound := by
  refine ⟨?_, by decide, by decide, by decide, by decide, fun p hp n ends hb => ?_, fun c hc => ?_⟩
  · unfold Main.QueueSound
    decide
  · cases List.mem_singleton.1 hp
    exact PostBody.noConfusion hb
  · exact absurd hc (Option.not_mem_none c)

theorem State.reset_sound : State.reset.Sound := by
  refine ⟨State.reset_everyRetained _ ?_, ?_, State.reset_linkSound, ?_, fun _ => ⟨?_, ?_⟩, ?_, ?_⟩
  · unfold Retained.LogSound Retained.LogInOrder Retained.LogHasRoom
    decide
  · unfold Main.ContactsSound Contact.Sound
    decide
  · unfold Drain.Sound
    decide
  · exact fun c hc => absurd hc List.not_mem_nil
  · exact fun x hx => absurd hx List.not_mem_nil
  · unfold State.SlotsNameSlotted
    decide
  · unfold State.BatchMarksAgree
    decide

/-- Settles O51: the tables are empty, so that each bound is one of the few values that stand. -/
theorem resetMeetsEveryBound : Obligations.ResetMeetsEveryBound := by
  unfold Obligations.ResetMeetsEveryBound
  refine ⟨State.reset_sound, State.reset_everyRetained _ ?_, State.reset_everyRetained _ ?_,
    State.reset_everyRetained _ ?_, ?_, ?_⟩
  · unfold Retained.RouteSound RouteEntry.InRange RouteEntry.Untouched
    decide
  · unfold Retained.ClocksInWidth
    decide
  · exact fun x hx => absurd hx List.not_mem_nil
  · exact fun c hc => absurd hc List.not_mem_nil
  · unfold State.PeersSound
    decide

end Sys2Proof.Machine
end

section
/-! # What a step leaves of the contacts and of the OPEN records

Most commands move neither the contact table nor a record's SEQUENCE, OPEN-STATE or meter. That is said here once for
each operation, so that a promise about contacts and OPEN records is left to be proved for the few that do. -/

namespace Sys2Proof.Machine

/-! ## The same contacts and records -/

/-- What the binding of contacts to records reads of a record: its SEQUENCE, whether it is OPEN, and of a READ record
its meter (R36). -/
def Record.standing (x : Record) : Nat × Bool × Option MeterId :=
  (x.seq, x.isOpen, x.readFields.map ReadFields.meter)

/-- `t` has the contacts of `s`, and its records stand as those of `s`. -/
structure State.SameHolding (s t : State) : Prop where
  contacts : t.main.contacts = s.main.contacts
  powered : t.powered = s.powered
  nextSeq : t.ret.nextSeq = s.ret.nextSeq
  records : t.ret.log.map Record.standing = s.ret.log.map Record.standing

namespace State.SameHolding

variable {s t u : State}

theorem refl (s : State) : s.SameHolding s := ⟨rfl, rfl, rfl, rfl⟩

theorem trans (h : s.SameHolding t) (k : t.SameHolding u) : s.SameHolding u :=
  ⟨k.contacts.trans h.contacts, k.powered.trans h.powered, k.nextSeq.trans h.nextSeq,
    k.records.trans h.records⟩

/-- A change outside the retained domain that leaves the contact table alone. -/
theorem of_ret (hc : t.main.contacts = s.main.contacts) (hp : t.powered = s.powered) (hr : t.ret = s.ret) :
    s.SameHolding t :=
  ⟨hc, hp, by rw [hr], by rw [hr]⟩

/-- Such a change before an operation that keeps contacts and records. -/
theorem after (k : t.SameHolding u) (hc : t.main.contacts = s.main.contacts) (hp : t.powered = s.powered)
    (hr : t.ret = s.ret) : s.SameHolding u :=
  (of_ret hc hp hr).trans k

/-- A write that leaves the log and its counter alone. -/
theorem write {f : Retained → Retained} (hn : (f s.ret).nextSeq = s.ret.nextSeq) (hl : (f s.ret).log = s.ret.log) :
    s.SameHolding (s.write f) :=
  ⟨rfl, rfl, hn, congrArg (List.map Record.standing) hl⟩

end State.SameHolding

/-- An update of records that keeps how each stands. -/
theorem map_standing (f : Record → Record) (c : Record → Prop) [DecidablePred c]
    (hf : ∀ x, (f x).standing = x.standing) (l : List Record) :
    (l.map fun x => if c x then f x else x).map Record.standing = l.map Record.standing := by
  rw [List.map_map]
  refine List.map_congr_left fun x _ => ?_
  simp only [Function.comp]
  split
  · exact hf x
  · rfl

theorem Retained.updRecord_standing (r : Retained) (q : Nat) (f : Record → Record)
    (hf : ∀ x, (f x).standing = x.standing) :
    (r.updRecord q f).log.map Record.standing = r.log.map Record.standing :=
  map_standing f (fun x => x.seq = q) hf r.log

theorem State.updRecord_sameHolding (s : State) (q : Nat) (f : Record → Record)
    (hf : ∀ x, (f x).standing = x.standing) : s.SameHolding (s.write fun r => r.updRecord q f) :=
  ⟨rfl, rfl, rfl, s.ret.updRecord_standing q f hf⟩

/-! ## The shared operations -/

section

variable (s : State)

theorem State.offer_sameHolding (p : Post) : s.SameHolding (s.offer p) :=
  .of_ret (s.offer_contacts p) (s.offer_powered p) (s.offer_ret p)

theorem State.offerStatus_sameHolding : s.SameHolding s.offerStatus :=
  .of_ret (by rw [State.offerStatus_frame]) s.offerStatus_powered s.offerStatus_ret

theorem State.changeEntry_sameHolding (m : MeterId) (f : RouteEntry → RouteEntry) :
    s.SameHolding (s.changeEntry m f) := by
  obtain ⟨main, powered, -, -, ret⟩ := s.changeEntry_frame m f
  exact ⟨by rw [main], powered, by rw [ret], by rw [ret]⟩

theorem State.raise_sameHolding (q : Nat) : s.SameHolding (s.raise q) := by
  rcases s.raise_cases q with h | h
  · rw [h]
    exact .refl s
  · rw [h]
    exact s.updRecord_sameHolding q _ fun _ => rfl

theorem State.markAll_sameHolding (m : DrainMark) (l : List Nat) : s.SameHolding (s.markAll m l) := by
  have ret := s.markAll_ret m l
  refine ⟨by rw [State.markAll_main], s.markAll_powered m l, by rw [ret], ?_⟩
  rw [ret]
  exact map_standing (Record.withMark m) (fun x => x.seq ∈ l) (fun _ => rfl) s.ret.log

theorem State.returnSlotted_sameHolding : s.SameHolding s.returnSlotted := by
  obtain ⟨main, powered, -⟩ := s.returnSlotted_frame
  have ret := s.returnSlotted_ret
  refine ⟨by rw [main], powered, by rw [ret], ?_⟩
  rw [ret, List.map_map]
  rfl

theorem State.restartParkReturn_sameHolding : s.SameHolding s.restartParkReturn := by
  rw [State.restartParkReturn_eq]
  exact .of_ret rfl rfl rfl

/-! ## The line -/

theorem State.lineSilent_sameHolding (quiet : Nat) : s.SameHolding (s.lineSilent quiet) := by
  rw [State.lineSilent_eq]
  split
  · exact .of_ret rfl rfl rfl
  · exact .refl s

theorem State.lineActive_sameHolding (quiet : Nat) : s.SameHolding (s.lineActive quiet) := by
  refine (s.lineSilent_sameHolding quiet).trans ?_
  simp only [State.lineActive]
  split <;> exact .of_ret rfl rfl rfl

theorem State.postPasses_sameHolding : s.SameHolding s.postPasses := by
  have begins : s.SameHolding s.postBegins := by
    unfold State.postBegins
    split
    · exact s.lineActive_sameHolding quietGapUs
    · exact .refl s
  refine begins.trans ?_
  unfold State.postPasses State.postEnds
  split <;> exact .of_ret rfl rfl rfl

/-! ## The drain engine -/

theorem State.clearDrainPost_sameHolding : s.SameHolding s.clearDrainPost := by
  obtain ⟨ret, powered, -⟩ := s.clearDrainPost_frame
  exact .of_ret (by rw [State.clearDrainPost_main]; rfl) powered ret

theorem State.clearBatch_sameHolding : s.SameHolding s.clearBatch :=
  ((s.markAll_sameHolding .unsent s.main.drain.batch).trans (State.clearDrainPost_sameHolding _)).trans
    (.of_ret rfl rfl rfl)

theorem State.endDrain_sameHolding : s.SameHolding s.endDrain := by
  unfold State.endDrain
  split
  · exact .refl s
  · exact s.clearBatch_sameHolding.trans (.of_ret rfl rfl rfl)

theorem State.offerDrainPost_sameHolding : s.SameHolding s.offerDrainPost := by
  unfold State.offerDrainPost
  split
  · exact .refl s
  · split <;> exact .of_ret rfl rfl rfl

theorem State.formBatch_sameHolding : s.SameHolding s.formBatch := by
  have marked (d : Drain) : s.SameHolding ((s.markAll .sentInBatch s.ret.batchChoice).setDrain d) :=
    (s.markAll_sameHolding _ _).trans (.of_ret rfl rfl rfl)
  simp only [State.formBatch]
  split
  · exact marked _
  · exact (marked _).trans (State.offerDrainPost_sameHolding _)

theorem State.openDrain_sameHolding (src : Nat) : s.SameHolding (s.openDrain src) := by
  refine State.SameHolding.trans (t := if s.main.drain.state = .idle then s else s.clearBatch) ?_
    ((State.formBatch_sameHolding _).after rfl rfl rfl)
  split
  · exact .refl s
  · exact s.clearBatch_sameHolding

theorem State.closeDrain_sameHolding (src : Nat) : s.SameHolding (s.closeDrain src) := by
  unfold State.closeDrain
  split
  · exact s.endDrain_sameHolding
  · exact .refl s

theorem State.clearedPostEnded_sameHolding : s.SameHolding s.clearedPostEnded := by
  simp only [State.clearedPostEnded]
  split
  · exact (State.offerDrainPost_sameHolding _).after rfl rfl rfl
  · exact .of_ret rfl rfl rfl

theorem State.batchEndTransmitted_sameHolding (n : Nat) : s.SameHolding (s.batchEndTransmitted n) := by
  unfold State.batchEndTransmitted
  split <;> exact .of_ret rfl rfl rfl

theorem State.releaseAlert_sameHolding (q : Nat) (a : AlertState) : s.SameHolding (s.releaseAlert q a) := by
  cases a with
  | slotted =>
    simp only [State.releaseAlert]
    split <;> exact .of_ret rfl rfl rfl
  | _ => exact .of_ret rfl rfl rfl

theorem State.releaseAlerts_sameHolding (l : List (Nat × AlertState)) :
    s.SameHolding (l.foldl (fun u x => u.releaseAlert x.1 x.2) s) := by
  induction l generalizing s with
  | nil => exact .refl s
  | cons x l ih => exact (s.releaseAlert_sameHolding x.1 x.2).trans (ih _)

/-! ## The transmitter and the alert unit -/

theorem State.attemptAfter_sameHolding (quiet : Nat) : s.SameHolding (s.attemptAfter quiet) := by
  unfold State.attemptAfter
  split
  · exact .refl s
  · split
    · refine (s.lineSilent_sameHolding quiet).trans ?_
      unfold State.attemptDue
      split
      · split <;> exact .of_ret rfl rfl rfl
      · split
        · exact .refl _
        · split <;> exact .of_ret rfl rfl rfl
    · exact s.lineSilent_sameHolding quiet

theorem State.tellSent_sameHolding (c : Current) : s.SameHolding (s.tellSent c) := by
  unfold State.tellSent
  split
  · exact .of_ret rfl rfl rfl
  · split
    · exact s.clearedPostEnded_sameHolding
    · exact (State.offerDrainPost_sameHolding _).after rfl rfl rfl
  · split
    · exact s.clearedPostEnded_sameHolding
    · exact s.batchEndTransmitted_sameHolding _
  · exact .refl s

theorem State.attemptSent_sameHolding : s.SameHolding s.attemptSent := by
  unfold State.attemptSent
  split
  · exact .refl s
  · split
    · exact (State.tellSent_sameHolding _ _).after rfl rfl rfl
    · exact .refl s

theorem State.attemptFailed_sameHolding : s.SameHolding s.attemptFailed := by
  unfold State.attemptFailed
  split
  · exact .refl s
  · split
    · exact .refl s
    · split
      · split
        · exact (State.clearedPostEnded_sameHolding _).after rfl rfl rfl
        · exact .of_ret rfl rfl rfl
      · split
        · split
          · exact (State.endDrain_sameHolding _).after rfl rfl rfl
          · exact .of_ret rfl rfl rfl
        · exact .of_ret rfl rfl rfl

theorem State.promote_sameHolding : s.SameHolding s.promote := by
  unfold State.promote
  split
  · exact .refl s
  · split
    · rename_i i x _ _
      exact ⟨rfl, rfl, rfl, s.ret.updRecord_standing x.seq _ fun _ => rfl⟩
    · exact .refl s

theorem State.ackAlert_sameHolding (slot : Byte) (q : Nat) : s.SameHolding (s.ackAlert slot q) := by
  unfold State.ackAlert
  split
  · exact .refl s
  · split
    · exact ⟨rfl, rfl, rfl, s.ret.updRecord_standing q _ fun _ => rfl⟩
    · exact .refl s

/-! ## The route table -/

theorem State.routeBegun_sameHolding (route count : Nat) : s.SameHolding (s.routeBegun route count) := by
  have begun : s.SameHolding (s.write (Retained.beginRoute route count)) := .write rfl rfl
  simp only [State.routeBegun]
  split
  · exact .refl s
  · split
    · split
      · exact begun
      · exact begun.trans (State.offerStatus_sameHolding _)
    · exact .of_ret rfl rfl rfl

theorem State.takeEntry_sameHolding (f : EntryFields) : s.SameHolding (s.takeEntry f) := by
  unfold State.takeEntry
  split
  · exact .write rfl rfl
  · exact .refl s
  · exact .of_ret rfl rfl rfl

theorem State.takeEntries_sameHolding (fs : List EntryFields) : s.SameHolding (s.takeEntries fs) := by
  induction fs generalizing s with
  | nil => exact .refl s
  | cons f fs ih => exact (s.takeEntry_sameHolding f).trans (ih (s.takeEntry f))

theorem State.routeGone_sameHolding (src : Nat) : s.SameHolding (s.routeGone src) := by
  unfold State.routeGone
  split
  · have gap (u : State) : u.SameHolding (u.offerGap src) := by
      unfold State.offerGap
      split
      · exact .refl u
      · exact u.offer_sameHolding _
    exact (State.SameHolding.write rfl rfl).trans ((gap _).trans (State.offerStatus_sameHolding _))
  · exact .refl s

/-! ## Claims that reach an entry or a holder -/

theorem Record.markDouble_standing (x : Record) : x.markDouble.standing = x.standing := by
  obtain ⟨q, route, o, mark, alert, body⟩ := x
  cases body <;> rfl

theorem Retained.markDouble_standing (r : Retained) (m : MeterId) :
    (r.markDouble m).nextSeq = r.nextSeq ∧
      (r.markDouble m).log.map Record.standing = r.log.map Record.standing := by
  unfold Retained.markDouble
  split
  · rw [Retained.updRunningEntry_frame]
    exact ⟨rfl, r.updRecord_standing _ _ Record.markDouble_standing⟩
  · rw [Retained.updRunningEntry_frame]
    exact ⟨rfl, rfl⟩

theorem State.answerAsHolder_sameHolding (m : MeterId) (q : Nat) (c : Claim) :
    s.SameHolding (s.answerAsHolder m q c) := by
  unfold State.answerAsHolder
  split
  · exact s.offer_sameHolding _
  · obtain ⟨nextSeq, records⟩ := s.ret.markDouble_standing m
    exact ⟨rfl, rfl, nextSeq, records⟩

theorem State.changeEntryState_sameHolding (m : MeterId) (f : EntryState → EntryState) :
    s.SameHolding (s.changeEntryState m f) :=
  s.changeEntry_sameHolding m _

theorem State.claimAtEntry_sameHolding (m : MeterId) (c : Claim) : s.SameHolding (s.claimAtEntry m c) := by
  unfold State.claimAtEntry
  split
  · exact .refl s
  · split
    · exact s.answerAsHolder_sameHolding _ _ _
    · split <;> exact s.changeEntryState_sameHolding _ _

/-! ## Supply, park and queries -/

theorem State.enterRun_sameHolding : s.SameHolding s.enterRun :=
  (State.offerStatus_sameHolding (s.setPark .run)).after rfl rfl rfl

theorem State.runPost_sameHolding : s.SameHolding s.runPost := by
  unfold State.runPost
  split
  · exact s.enterRun_sameHolding
  · exact .refl s

theorem State.ignRose_sameHolding : s.SameHolding s.ignRose := by
  unfold State.ignRose
  split
  · exact s.enterRun_sameHolding
  · exact .refl s

theorem State.judgeSag_sameHolding : s.SameHolding s.judgeSag := by
  unfold State.judgeSag
  split <;> exact .of_ret rfl rfl rfl

theorem State.judgeNormal_sameHolding : s.SameHolding s.judgeNormal := by
  unfold State.judgeNormal
  split <;> exact .of_ret rfl rfl rfl

theorem State.answerCount_sameHolding (src : Nat) (part : Byte) : s.SameHolding (s.answerCount src part) := by
  unfold State.answerCount
  split
  · exact .refl s
  · exact s.offer_sameHolding _

theorem State.lineStretch_sameHolding (p : Port) (bits : List Bool) (falls : Bool) :
    s.SameHolding (s.lineStretch p bits falls) := by
  obtain ⟨x, e⟩ := s.lineStretch_frame p bits falls
  rw [e]
  exact .of_ret (Main.setPort_contacts _ p x) rfl rfl

end

end Sys2Proof.Machine
end

section
/-! # One dispatch for the promises about contacts -/

namespace Sys2Proof.Machine

/-- `P` is kept by each operation that moves a contact or how a record stands, and is blind to all others; `Q` is what
`P` promises, and what is left of it by a start or a loss of supply. -/
structure ContactPromise (P Q : State → Prop) : Prop where
  gives : ∀ {s : State}, P s → Q s
  same : ∀ {s t : State}, s.SameHolding t → P s → P t
  passTime : ∀ {s : State} (n : Nat), P s → P (s.passTime n)
  handOver : ∀ {s : State} (p : Port) (f : Frame), P s → P (s.handOver p f (s.judge f))
  idleExpiry : ∀ {s : State} (m : MeterId), P s → P (s.contactExpiry m Contact.idle State.idleExpired)
  holdOffExpiry : ∀ {s : State} (m : MeterId), P s → P (s.contactExpiry m Contact.holdOff State.holdOffExpired)
  settleExpiry : ∀ {s : State} (m : MeterId), P s → P (s.contactExpiry m Contact.settle State.settleExpired)
  placeClaim : ∀ {s : State} (m : MeterId) (c : Claim), P s → P (s.placeClaim m c)
  placeYield : ∀ {s : State} (m : MeterId) (n : Nat), P s → P (s.placeYield m n)
  revertPeer : ∀ {s : State} (n : Nat), P s → P (s.revertPeer n)
  clearContacts : ∀ {s : State}, P s → P s.clearContacts
  stepWalk : ∀ {s : State}, P s → P s.stepWalk
  started : ∀ {s : State} (strap : Nat) (block : List Byte) (pins : Pins), P s → Q (s.started strap block pins)
  loseMain : ∀ {s : State} (cut : Nat), P s → Q (s.loseMain cut)
  loseBackup : ∀ {s : State}, P s → Q s.loseBackup

/-- `u` has the supply, the retained domain and the drain engine of `s`, as when a post has been heard. -/
structure State.SameDrain (s u : State) : Prop where
  powered : u.powered = s.powered
  ret : u.ret = s.ret
  drain : u.main.drain = s.main.drain

theorem State.SameDrain.restarted {s u : State} (h : s.SameDrain u) : s.SameDrain u.restartParkReturn := by
  rw [State.restartParkReturn_eq]
  exact ⟨h.powered, h.ret, h.drain⟩

/-- The judgement of a frame does not read the ports. -/
theorem State.judge_setPort (s : State) (p : Port) (x : PortState) (f : Frame) :
    (s.setPort p x).judge f = s.judge f := by
  cases p <;> rfl

namespace ContactPromise

variable {P Q : State → Prop} (hP : ContactPromise P Q)
include hP

/-- A change outside the retained domain that leaves the contact table alone. -/
theorem aside {s t : State} (hs : P s) (hc : t.main.contacts = s.main.contacts) (hp : t.powered = s.powered)
    (hr : t.ret = s.ret) : P t :=
  hP.same (.of_ret hc hp hr) hs

/-- A post is heard, and then acted on. -/
theorem hear {s : State} (src : Nat) (role : Option Role) {act : State → State}
    (h : ∀ u, s.SameDrain u → P u → P (act u)) (hs : P s) : P (s.hear src role act) := by
  rcases s.hear_cases src role act with ⟨-, e⟩ | ⟨-, -, -, e⟩ | ⟨r, -, -, -, -, e⟩
  · rw [e]
    exact hP.same s.postPasses_sameHolding hs
  · rw [e]
    exact hP.aside hs rfl rfl rfl
  · rw [e]
    exact h _ ⟨rfl, rfl, rfl⟩ (hP.aside hs rfl rfl rfl)

theorem hearAddressed {s : State} (src : Nat) (role : Role) {act : State → State}
    (h : ∀ u, s.SameDrain u → P u → P (act u)) (hs : P s) : P (s.hearAddressed src role act) := by
  exact hP.hear src _ (fun u hu k => h _ hu.restarted (hP.same u.restartParkReturn_sameHolding k)) hs

theorem hearQuery {s : State} (src : Nat) (role : Role) {act : State → State}
    (h : ∀ u, P u → P (act u)) (hs : P s) : P (s.hearQuery src role act) := by
  refine hP.hear src _ (fun u _ k => ?_) hs
  split
  · exact k
  · exact h _ (hP.same u.restartParkReturn_sameHolding k)

/-! ## The actions that clear the contact table -/

theorem enterParked {s : State} (hs : P s) : P s.enterParked := by
  have flushed : s.clearContacts.SameHolding s.clearContacts.flushPorts := .of_ret rfl rfl rfl
  have ended := flushed.trans (State.endDrain_sameHolding _)
  exact hP.same (ended.trans (.of_ret rfl rfl rfl)) (hP.clearContacts hs)

theorem parkPost {s : State} (hs : P s) : P s.parkPost := by
  unfold State.parkPost
  split
  · exact hs
  · exact hP.enterParked hs

theorem ignFell {s : State} (hs : P s) : P s.ignFell := by
  unfold State.ignFell
  split
  · exact hP.enterParked hs
  · exact hs

theorem routeClosed {s : State} (hs : P s) : P s.routeClosed := by
  unfold State.routeClosed
  split
  · have closing : P (s.write Retained.startClosing) := hP.same (.write rfl rfl) hs
    exact hP.same (State.offerStatus_sameHolding _) (hP.aside (hP.clearContacts closing) rfl rfl rfl)
  · exact hs

theorem stationReset {s : State} (hs : P s) : P s.stationReset := by
  have marks : s.clearContacts.SameHolding (s.clearContacts.returnSlotted.markAll .unsent s.main.drain.batch) :=
    (State.returnSlotted_sameHolding _).trans (State.markAll_sameHolding _ _ _)
  have cleared : s.clearContacts.main.contacts = [] := by
    rw [State.clearContacts_main]
  refine hP.same (marks.trans ((State.offerStatus_sameHolding _).after ?_ rfl rfl)) (hP.clearContacts hs)
  exact (marks.contacts.trans cleared).symm

/-! ## Posts and commands -/

/-- Acting on a post keeps `P`, when acting on a COMMIT does. -/
theorem actOnKind {s : State} (k : Kind) (src : Nat) (body : List Byte)
    (commit : ∀ v, P (s.commitDrain src v)) (hs : P s) : P (s.actOnKind k src body) := by
  cases k with
  | claim => exact hP.placeClaim _ _ hs
  | yield => exact hP.placeYield _ _ hs
  | alertAck => exact hP.same (s.ackAlert_sameHolding _ _) hs
  | routeBegin => exact hP.same (s.routeBegun_sameHolding _ _) hs
  | routeEntry => exact hP.same (s.takeEntries_sameHolding _) hs
  | routeGo => exact hP.same (s.routeGone_sameHolding _) hs
  | routeClose => exact hP.routeClosed hs
  | park => exact hP.parkPost hs
  | run => exact hP.same s.runPost_sameHolding hs
  | reset => exact hP.stationReset hs
  | configQuery => exact hP.same (s.offer_sameHolding _) hs
  | countQuery => exact hP.same (s.answerCount_sameHolding _ _) hs
  | drainOpen => exact hP.same (s.openDrain_sameHolding _) hs
  | commit => exact commit _
  | drainClose => exact hP.same (s.closeDrain_sameHolding _) hs
  | _ => exact hs

theorem hearBytes {s : State} (bytes : List Byte)
    (commit : ∀ u src v, s.SameDrain u → P u → P (u.commitDrain src v)) (hs : P s) : P (s.hearBytes bytes) := by
  unfold State.hearBytes
  have passed := hP.same s.postPasses_sameHolding hs
  split
  · split
    · exact hP.aside passed rfl rfl rfl
    · exact passed
  · rename_i h _
    refine hP.hear h.src h.role (fun u hu k => ?_) hs
    unfold State.actOnPost
    split
    · split
      · split
        · exact hP.actOnKind _ _ _ (fun v => commit u _ v hu k) k
        · have restarted := hP.same u.restartParkReturn_sameHolding k
          exact hP.actOnKind _ _ _ (fun v => commit _ _ v hu.restarted restarted) restarted
      · exact k
    · exact k

theorem takeFrom {s : State} (p : Port) (hs : P s) : P (s.takeFrom p) := by
  unfold State.takeFrom
  split
  · exact hs
  · rename_i f rest _
    let left := s.setPort p { s.main.port p with slots := rest }
    have counted : P (left.countDisposition p (s.judge f).disposition) :=
      hP.aside hs ((Main.setPort_contacts _ p _).trans (Main.setPort_contacts _ p _)) rfl rfl
    have judged : (left.countDisposition p (s.judge f).disposition).judge f = s.judge f :=
      (State.judge_setPort left p _ f).trans (State.judge_setPort s p _ f)
    have handed := hP.handOver p f counted
    rwa [judged] at handed

/-! ## The timers outside the contact table -/

theorem statusTimerExpired {s : State} (hs : P s) : P s.statusTimerExpired := by
  unfold State.statusTimerExpired
  split
  · exact hs
  · exact hP.same (State.offerStatus_sameHolding _) (hP.passTime _ hs)

theorem silenceExpired {s : State} (n : Nat) (hs : P s) : P (s.silenceExpired n) := by
  unfold State.silenceExpired
  split
  · exact hs
  · rename_i left _
    exact hP.revertPeer n (hP.aside (hP.passTime left hs) rfl rfl rfl)

theorem commitWaitExpired {s : State} (hs : P s) : P s.commitWaitExpired := by
  unfold State.commitWaitExpired
  split
  · exact hs
  · exact hP.same (State.endDrain_sameHolding _) (hP.passTime _ hs)

theorem wakeSettled {s : State} (hs : P s) : P s.wakeSettled := by
  unfold State.wakeSettled
  split
  · exact hs
  · rename_i left _
    exact hP.same (State.offerStatus_sameHolding _) (hP.aside (hP.passTime left hs) rfl rfl rfl)

theorem parkReturnExpired {s : State} (hs : P s) : P s.parkReturnExpired := by
  unfold State.parkReturnExpired
  split
  · exact hs
  · exact hP.enterParked (hP.passTime _ hs)

/-- Every command leaves what `P` promises, when acting on a COMMIT keeps `P`. -/
theorem exec {s t : State} (i : Instr) (commit : ∀ u src v, s.SameDrain u → P u → P (u.commitDrain src v))
    (hs : P s) (h : Machine.exec i s = .next t) : Q t := by
  have begun : P s.begin := hP.aside hs rfl rfl rfl
  have acted (u : State) : s.begin.SameDrain u → s.SameDrain u := fun hu => ⟨hu.powered, hu.ret, hu.drain⟩
  cases i with
  | frameComplete p wait bits falls =>
    cases h
    exact hP.gives (hP.same (State.lineStretch_sameHolding _ p bits falls) (hP.passTime wait begun))
  | take p => cases h; exact hP.gives (hP.takeFrom p begun)
  | idleExpiry m => cases h; exact hP.gives (hP.idleExpiry m begun)
  | holdOffExpiry m => cases h; exact hP.gives (hP.holdOffExpiry m begun)
  | settleExpiry m => cases h; exact hP.gives (hP.settleExpiry m begun)
  | attempt quiet => cases h; exact hP.gives (hP.same (State.attemptAfter_sameHolding _ quiet) begun)
  | postSent => cases h; exact hP.gives (hP.same (State.attemptSent_sameHolding _) begun)
  | attemptLost => cases h; exact hP.gives (hP.same (State.attemptFailed_sameHolding _) begun)
  | postReceived bytes =>
    cases h
    exact hP.gives (hP.hearBytes bytes (fun u src v hu => commit u src v (acted u hu)) begun)
  | claim src m q hold => cases h; exact hP.gives (hP.hear _ _ (fun _ _ k => hP.placeClaim m _ k) begun)
  | yield src m => cases h; exact hP.gives (hP.hear _ _ (fun _ _ k => hP.placeYield m _ k) begun)
  | status src role => cases h; exact hP.gives (hP.hear _ _ (fun _ _ k => k) begun)
  | alert src role => cases h; exact hP.gives (hP.hear _ _ (fun _ _ k => k) begun)
  | alertAck src slot q =>
    cases h
    exact hP.gives (hP.hearAddressed _ _ (fun u _ k => hP.same (u.ackAlert_sameHolding slot _) k) begun)
  | routeBegin src route count =>
    cases h
    exact hP.gives (hP.hearAddressed _ _ (fun u _ k => hP.same (u.routeBegun_sameHolding _ _) k) begun)
  | routeEntry src fs =>
    cases h
    exact hP.gives (hP.hearAddressed _ _ (fun u _ k => hP.same (u.takeEntries_sameHolding fs) k) begun)
  | routeGo src =>
    cases h
    exact hP.gives (hP.hearAddressed _ _ (fun u _ k => hP.same (u.routeGone_sameHolding _) k) begun)
  | routeClose src => cases h; exact hP.gives (hP.hearAddressed _ _ (fun _ _ k => hP.routeClosed k) begun)
  | walkStep => cases h; exact hP.gives (hP.stepWalk begun)
  | park src => cases h; exact hP.gives (hP.hearAddressed _ _ (fun _ _ k => hP.parkPost k) begun)
  | run src =>
    cases h
    exact hP.gives (hP.hearAddressed _ _ (fun u _ k => hP.same u.runPost_sameHolding k) begun)
  | reset src role => cases h; exact hP.gives (hP.hearQuery _ _ (fun _ k => hP.stationReset k) begun)
  | configQuery src role =>
    cases h
    exact hP.gives (hP.hearQuery _ _ (fun u k => hP.same (u.offer_sameHolding _) k) begun)
  | countQuery src role part =>
    cases h
    exact hP.gives (hP.hearQuery _ _ (fun u k => hP.same (u.answerCount_sameHolding _ part) k) begun)
  | drainOpen src =>
    cases h
    exact hP.gives (hP.hearAddressed _ _ (fun u _ k => hP.same (u.openDrain_sameHolding _) k) begun)
  | commit src v =>
    cases h
    exact hP.gives (hP.hearAddressed _ _ (fun u hu => commit u _ _ (acted u hu)) begun)
  | drainClose src =>
    cases h
    exact hP.gives (hP.hearAddressed _ _ (fun u _ k => hP.same (u.closeDrain_sameHolding _) k) begun)
  | commitWaitExpiry => cases h; exact hP.gives (hP.commitWaitExpired begun)
  | drainPostOffer =>
    cases h
    split
    · exact hP.gives (hP.same (State.offerDrainPost_sameHolding _) begun)
    · exact hP.gives begun
  | promotion => cases h; exact hP.gives (hP.same (State.promote_sameHolding _) begun)
  | statusTimerExpiry => cases h; exact hP.gives (hP.statusTimerExpired begun)
  | silence n => cases h; exact hP.gives (hP.silenceExpired _ begun)
  | ignFallingEdge => cases h; exact hP.gives (hP.ignFell (hP.aside hs rfl rfl rfl))
  | ignRisingEdge =>
    cases h
    exact hP.gives (hP.same (State.ignRose_sameHolding _) (hP.aside hs rfl rfl rfl))
  | wake quiet => cases h; exact hP.gives (hP.same (State.lineActive_sameHolding _ quiet) begun)
  | wakeSettleExpiry => cases h; exact hP.gives (hP.wakeSettled begun)
  | parkReturnExpiry => cases h; exact hP.gives (hP.parkReturnExpired begun)
  | enterSag mv =>
    cases h
    exact hP.gives (hP.same (State.judgeSag_sameHolding _) (hP.aside hs rfl rfl rfl))
  | returnToNormal mv =>
    cases h
    exact hP.gives (hP.same (State.judgeNormal_sameHolding _) (hP.aside hs rfl rfl rfl))
  | mainSupplyLoss cut => cases h; exact hP.loseMain cut hs
  | startUp straps block ign mv => cases h; exact hP.started _ block _ begun
  | backupSupplyLoss =>
    cases h
    split
    · exact hP.loseBackup begun
    · exact hP.gives (hP.aside hs rfl rfl rfl)

/-- Every step leaves what `P` promises, when acting on a COMMIT keeps `P`. -/
theorem step {s t : State} (commit : ∀ u src v, s.SameDrain u → P u → P (u.commitDrain src v)) (hs : P s)
    (h : Machine.step s = .next t) : Q t := by
  unfold Machine.step at h
  split at h
  · cases h
    exact hP.gives (hP.passTime 1 (hP.aside hs rfl rfl rfl))
  · rename_i i rest _
    exact hP.exec (s := { s with pending := rest }) i
      (fun u src v hu => commit u src v ⟨hu.powered, hu.ret, hu.drain⟩) (hP.aside hs rfl rfl rfl) h

end ContactPromise

end Sys2Proof.Machine
end

section
/-! # Eviction: the CEDED contact heard longest ago (R24) -/

namespace Sys2Proof.Machine

/-- `v` is evicted no later than `c`: heard earlier, or at the same time with a METER-ID no higher (R24). -/
def Contact.NoLater (v c : Contact) : Prop :=
  v.lastArrival < c.lastArrival ∨ (v.lastArrival = c.lastArrival ∧ v.meter.toNat ≤ c.meter.toNat)

theorem Contact.NoLater.refl (c : Contact) : c.NoLater c := .inr ⟨rfl, Nat.le_refl _⟩

theorem Contact.NoLater.trans {a b c : Contact} (h : a.NoLater b) (k : b.NoLater c) : a.NoLater c := by
  unfold Contact.NoLater at *
  omega

theorem Contact.noLater_of_evictedBefore {a b : Contact} (h : a.evictedBefore b = true) : a.NoLater b := by
  simp only [Contact.evictedBefore, Bool.or_eq_true, Bool.and_eq_true, decide_eq_true_eq] at h
  exact h.imp_right fun ⟨e, l⟩ => ⟨e, Nat.le_of_lt l⟩

theorem Contact.noLater_of_not_evictedBefore {a b : Contact} (h : a.evictedBefore b = false) : b.NoLater a := by
  simp only [Contact.evictedBefore, Bool.or_eq_false_iff, Bool.and_eq_false_imp, decide_eq_true_eq,
    decide_eq_false_iff_not] at h
  unfold Contact.NoLater
  omega

/-- One step of the choice of a victim, in a run over the CEDED contacts. -/
def earlierVictim : Option Contact → Contact → Option Contact
  | none, c => some c
  | some b, c => if c.evictedBefore b then some c else some b

theorem evictionVictim_eq (cs : List Contact) :
    evictionVictim cs = (cs.filter Contact.isCeded).foldl earlierVictim none := by
  unfold evictionVictim
  congr 1
  funext best c
  cases best <;> rfl

/-- The run from a contact `b` ends at the earliest of `b` and the contacts it meets. -/
theorem foldl_earlierVictim (l : List Contact) (b : Contact) :
    ∃ v, l.foldl earlierVictim (some b) = some v ∧ (v = b ∨ v ∈ l) ∧ v.NoLater b ∧ ∀ c ∈ l, v.NoLater c := by
  induction l generalizing b with
  | nil => exact ⟨b, rfl, .inl rfl, .refl b, fun c hc => absurd hc List.not_mem_nil⟩
  | cons a l ih =>
    simp only [List.foldl_cons, earlierVictim, List.forall_mem_cons]
    cases before : a.evictedBefore b
    · obtain ⟨v, e, mem, noLater, others⟩ := ih b
      exact ⟨v, e, mem.imp_right (List.mem_cons_of_mem a), noLater,
        noLater.trans (Contact.noLater_of_not_evictedBefore before), others⟩
    · obtain ⟨v, e, mem, noLater, others⟩ := ih a
      exact ⟨v, e, .inr (List.mem_cons.2 mem), noLater.trans (Contact.noLater_of_evictedBefore before),
        noLater, others⟩

/-- Without a CEDED contact none can be evicted; with one, eviction takes one that no other precedes. -/
theorem evictionVictim_cases (cs : List Contact) :
    (evictionVictim cs = none ∧ ∀ c ∈ cs, c.isCeded = false) ∨
      ∃ v, evictionVictim cs = some v ∧ v ∈ cs ∧ v.isCeded = true ∧ ∀ c ∈ cs, c.isCeded = true → v.NoLater c := by
  rw [evictionVictim_eq]
  cases h : cs.filter Contact.isCeded with
  | nil =>
    refine .inl ⟨rfl, fun c hc => ?_⟩
    simpa using List.filter_eq_nil_iff.1 h c hc
  | cons b l =>
    obtain ⟨v, e, mem, noLater, others⟩ := foldl_earlierVictim l b
    have listed : ∀ c, c ∈ b :: l ↔ c ∈ cs ∧ c.isCeded = true := fun c => h ▸ List.mem_filter
    obtain ⟨hv, ceded⟩ := (listed v).1 (List.mem_cons.2 mem)
    refine .inr ⟨v, e, hv, ceded, fun c hc hceded => ?_⟩
    rcases List.mem_cons.1 ((listed c).2 ⟨hc, hceded⟩) with rfl | hl
    · exact noLater
    · exact others c hl

/-- Settles O9, by the run over the CEDED contacts. -/
theorem evictionTakesEarliestCeded : Obligations.EvictionTakesEarliestCeded := by
  unfold Obligations.EvictionTakesEarliestCeded
  intro cs
  rcases evictionVictim_cases cs with ⟨e, none_ceded⟩ | ⟨v, e, mem, ceded, first⟩
  · exact ⟨⟨fun _ => none_ceded, fun _ => e⟩, fun v hv => by simp [e] at hv⟩
  · refine ⟨⟨fun h => by simp [e] at h, fun h => by simp [h v mem] at ceded⟩, fun w hw => ?_⟩
    cases e.symm.trans hw
    exact ⟨mem, ceded, first⟩

end Sys2Proof.Machine
end

section
/-! # The contact table: what its operations leave of R20, R21, R27 and R33 -/

namespace Sys2Proof.Machine

/-! ## The table by meter -/

theorem State.contactOf_some {s : State} {m : MeterId} {c : Contact} (h : s.contactOf m = some c) :
    c ∈ s.main.contacts ∧ c.meter = m :=
  ⟨List.mem_of_find?_eq_some h, by simpa using List.find?_some h⟩

/-- The table depends on the contacts alone. -/
theorem State.contactOf_congr {s t : State} (h : t.main.contacts = s.main.contacts) (m : MeterId) :
    t.contactOf m = s.contactOf m := by
  rw [State.contactOf, h]
  rfl

/-- A contact that replaces the one of its meter is the one found there. -/
theorem State.contactOf_setContact {s : State} {c c₀ : Contact} (h : s.contactOf c.meter = some c₀) :
    (s.setContact c).contactOf c.meter = some c := by
  have found (x : Contact) : ((if x.meter = c.meter then c else x).meter == c.meter) = (x.meter == c.meter) := by
    split
    · rename_i e
      simp [e]
    · rfl
  unfold State.contactOf at h ⊢
  obtain ⟨-, hm⟩ := State.contactOf_some h
  simp only [State.setContact_main, List.find?_map, Function.comp_def, found, h, Option.map_some]
  rw [if_pos hm]

/-- The table's keys, the METER-IDs, are not moved by the replacement of a contact. -/
theorem State.setContact_keys (s : State) (c : Contact) :
    (s.setContact c).main.contacts.map (fun x => x.meter.toNat) = s.main.contacts.map fun x => x.meter.toNat := by
  simp only [State.setContact_main, List.map_map]
  refine List.map_congr_left fun x _ => ?_
  simp only [Function.comp]
  split
  · rename_i e
    rw [e]
  · rfl

theorem State.mem_setContact {s : State} {c x : Contact} (h : x ∈ (s.setContact c).main.contacts) :
    x = c ∨ (x ∈ s.main.contacts ∧ x.meter ≠ c.meter) := by
  obtain ⟨y, hy, rfl⟩ := List.mem_map.1 h
  split
  · exact .inl rfl
  · exact .inr ⟨hy, ‹_›⟩

theorem State.dropContact_congr {s t : State} (h : t.main.contacts = s.main.contacts) (m : MeterId) :
    (t.dropContact m).main.contacts = (s.dropContact m).main.contacts := by
  simp only [State.dropContact_main, h]

/-- A contact replaced and then dropped has been dropped. -/
theorem State.dropContact_setContact (s : State) (c : Contact) :
    ((s.setContact c).dropContact c.meter).main.contacts = (s.dropContact c.meter).main.contacts := by
  simp only [State.dropContact_main, State.setContact_main, List.filter_map]
  have kept : (fun x : Contact => x.meter != c.meter) ∘ (fun x => if x.meter = c.meter then c else x) =
      fun x => x.meter != c.meter := by
    funext x
    simp only [Function.comp]
    split
    · rename_i e
      simp [e]
    · rfl
  rw [kept]
  refine (List.map_congr_left fun x hx => if_neg ?_).trans (List.map_id' _)
  simpa using (List.mem_filter.1 hx).2

/-- The removal of a contact takes it, and it alone, out of the table (R39). -/
theorem State.removeContact_contacts (s : State) (m : MeterId) :
    (s.removeContact m).main.contacts = (s.dropContact m).main.contacts := by
  rcases s.removeContact_cases m with ⟨absent, h⟩ | ⟨c, -, ⟨q, -, h⟩ | ⟨-, h⟩ | ⟨-, h⟩⟩
  · rw [h, State.dropContact_main]
    refine (List.filter_eq_self.2 fun c hc => ?_).symm
    simpa using (s.contactOf_eq_none_iff m).1 absent c hc
  all_goals exact (congrArg (fun t : State => t.main.contacts) h).trans rfl

theorem State.finishIdle_of_contact {s : State} {m : MeterId} {c : Contact} (h : s.contactOf m = some c) :
    s.finishIdle m = if c.idlePending then s.removeContact m else s := by
  simp [State.finishIdle, h]

/-- The contact `c` as it enters HELD with the record `q`, in MUTE with SOLO (R104, R107, R122). -/
def Contact.asHeld (c : Contact) (mute : Bool) (q : Nat) : Contact :=
  { c with solo := c.solo || mute, noroom := false, settle := none, state := .held q }

theorem State.enterHeld_eq (s : State) (c : Contact) :
    s.enterHeld c =
      ((s.write (Retained.openRecord (c.asHeld s.main.mute s.ret.nextSeq))).setContact
        (c.asHeld s.main.mute s.ret.nextSeq)).raise s.ret.nextSeq := rfl

theorem State.enterHeld_contacts (s : State) (c : Contact) :
    (s.enterHeld c).main.contacts = (s.setContact (c.asHeld s.main.mute s.ret.nextSeq)).main.contacts := by
  simp [State.enterHeld_eq]

/-- A new contact is LISTENING or CEDED (R25). -/
theorem State.initialStanding_state (s : State) (m : MeterId) (on : Bool) :
    (s.initialStanding m on).1 = .listening ∨ ∃ k, (s.initialStanding m on).1 = .ceded k := by
  unfold State.initialStanding
  split
  · split
    · exact .inl rfl
    · split
      · exact .inr ⟨_, rfl⟩
      · exact .inl rfl
    · exact .inl rfl
  · exact .inl rfl

theorem Main.passTime_contactOf (m : Main) (n : Nat) (meter : MeterId) :
    ((m.passTime n).contacts.find? fun c => c.meter == meter) =
      (m.contacts.find? fun c => c.meter == meter).map (·.passTime n) :=
  List.find?_map

/-- Time that passes while the part is powered runs on the timers of a contact (R183). -/
theorem State.contactOf_passTime {s : State} {m : MeterId} {c : Contact} (powered : s.powered = true)
    (h : s.contactOf m = some c) (n : Nat) : (s.passTime n).contactOf m = some (c.passTime n) := by
  unfold State.contactOf at h ⊢
  rw [State.passTime_main, if_pos powered, Main.passTime_contactOf, h]
  rfl

/-- A contact stays in the table, in its state, while time passes. -/
theorem State.contactOf_passTime_state {s : State} {m : MeterId} {c : Contact} (h : s.contactOf m = some c)
    (n : Nat) : ∃ c₀, (s.passTime n).contactOf m = some c₀ ∧ c₀.state = c.state := by
  by_cases powered : s.powered = true
  · exact ⟨_, State.contactOf_passTime powered h n, rfl⟩
  · refine ⟨c, h ▸ State.contactOf_congr ?_ m, rfl⟩
    rw [State.passTime_main, if_neg powered]

theorem Contact.state_of_cededToClaiming {x : Contact} {n : Nat} (h : x.cededToClaiming n = true) :
    ∃ k, x.state = .ceded k := by
  unfold Contact.cededToClaiming at h
  split at h
  · exact ⟨_, ‹_›⟩
  · simp at h

/-- What a YIELD can do to the contact table (R118): nothing, or it releases a contact CEDED to its sender. -/
theorem State.placeYield_cases (s : State) (m : MeterId) (n : Nat) :
    s.SameHolding (s.placeYield m n) ∨ ∃ x, s.contactOf m = some x ∧ x.cededToClaiming n = true ∧
      (s.setContact x.release).SameHolding (s.placeYield m n) := by
  have entry (b : Bool) (t : State) :
      t.SameHolding (if b then t.changeEntryState m (EntryState.revert n) else t) := by
    split
    · exact t.changeEntryState_sameHolding _ _
    · exact .refl t
  by_cases ignored : s.ret.routeState = .closing ∨ validMeter m = false
  · exact .inl (by simpa [State.placeYield, ignored] using State.SameHolding.refl s)
  simp only [State.placeYield, if_neg ignored]
  cases hx : s.contactOf m with
  | none => exact .inl (entry _ s)
  | some x =>
    cases ceded : x.cededToClaiming n
    · exact .inl (by simpa [ceded] using entry (yieldReachesEntry n (some x)) s)
    · refine .inr ⟨x, rfl, ceded, ?_⟩
      simpa [ceded] using entry (yieldReachesEntry n (some x)) (s.setContact x.release)

/-- Reversion on silence reaches the contacts CEDED to that station, and of the retained domain the entries alone
(R119). -/
theorem State.revertPeer_frame (s : State) (n : Nat) :
    (s.revertPeer n).main.contacts = (s.main.contacts.map fun x => if x.cededToClaiming n then x.release else x) ∧
      (s.revertPeer n).powered = s.powered ∧ (s.revertPeer n).ret.nextSeq = s.ret.nextSeq ∧
      (s.revertPeer n).ret.log = s.ret.log := by
  simp only [State.revertPeer]
  split <;> exact ⟨rfl, rfl, rfl, rfl⟩

/-! ## A sound table -/

namespace Main.ContactsSound

variable {s t : State}

/-- The promise reads the contacts alone. -/
theorem congr (h : s.main.ContactsSound) (e : t.main.contacts = s.main.contacts) : t.main.ContactsSound := by
  unfold Main.ContactsSound at *
  rwa [e]

theorem sound_of_contactOf {m : MeterId} {c : Contact} (h : s.main.ContactsSound) (hc : s.contactOf m = some c) :
    c.Sound := by
  obtain ⟨-, -, sound⟩ := h
  exact sound c (State.contactOf_some hc).1

theorem setContact {c : Contact} (h : s.main.ContactsSound) (hc : c.Sound) :
    (s.setContact c).main.ContactsSound := by
  obtain ⟨order, size, sound⟩ := h
  refine ⟨s.setContact_keys c ▸ order, ?_, fun x hx => ?_⟩
  · simpa using size
  · rcases State.mem_setContact hx with rfl | ⟨mem, -⟩
    · exact hc
    · exact sound x mem

theorem dropContact (m : MeterId) (h : s.main.ContactsSound) : (s.dropContact m).main.ContactsSound := by
  obtain ⟨order, size, sound⟩ := h
  refine ⟨order.sublist (List.filter_sublist.map _), ?_, fun x hx => sound x (List.mem_filter.1 hx).1⟩
  exact (List.length_filter_le _ _).trans size

theorem removeContact (m : MeterId) (h : s.main.ContactsSound) : (s.removeContact m).main.ContactsSound :=
  (h.dropContact m).congr (s.removeContact_contacts m)

/-- A contact that is replaced, and removed at once when its idle expiry was deferred (R33): only a contact that stays
needs to be sound. -/
theorem finishIdle {c c₀ : Contact} (h : s.main.ContactsSound) (hc : s.contactOf c.meter = some c₀)
    (e : t.main.contacts = (s.setContact c).main.contacts) (stays : c.idlePending = false → c.Sound) :
    (t.finishIdle c.meter).main.ContactsSound := by
  have found : t.contactOf c.meter = some c := by
    rw [State.contactOf_congr e, State.contactOf_setContact hc]
  rw [State.finishIdle_of_contact found]
  split
  · refine (h.dropContact c.meter).congr ?_
    rw [State.removeContact_contacts, State.dropContact_congr e, State.dropContact_setContact]
  · rename_i running
    exact (h.setContact (stays (by simpa using running))).congr e

end Main.ContactsSound

/-! ## Sound contacts -/

namespace Contact.Sound

variable {c : Contact}

theorem settle_eq_none (h : c.Sound) (hs : c.state ≠ .claiming) : c.settle = none := by
  obtain ⟨-, -, -, settle, -, -⟩ := h
  simpa [hs] using settle

theorem idlePending_eq_false (h : c.Sound) (hs : c.state ≠ .claiming) : c.idlePending = false := by
  obtain ⟨-, -, -, -, -, pending⟩ := h
  simpa [hs] using pending

/-- A contact outside CLAIMING runs no settle timer and has no idle expiry deferred. -/
theorem outside {x : ContactState} (h : c.Sound) (hp : c.idlePending = false) (hx : x ≠ .claiming)
    (solo noroom : Bool) :
    ({ c with state := x, settle := none, solo := solo, noroom := noroom } : Contact).Sound := by
  obtain ⟨ring, arrivals, quality, -, holdOff, -⟩ := h
  exact ⟨ring, arrivals, quality, by simp [hx], holdOff, by simp [hp]⟩

theorem passTime (h : c.Sound) (n : Nat) : (c.passTime n).Sound := by
  obtain ⟨ring, arrivals, quality, settle, holdOff, pending⟩ := h
  refine ⟨ring, arrivals, quality, ?_, ?_, pending⟩
  · simpa [Contact.passTime, Timer.pass] using settle
  · simpa [Contact.passTime, Timer.pass] using holdOff

theorem nowEligible (h : c.Sound) : c.nowEligible.Sound := by
  obtain ⟨ring, arrivals, quality, settle, -, pending⟩ := h
  exact ⟨ring, arrivals, quality, settle, rfl, pending⟩

end Contact.Sound

end Sys2Proof.Machine
end

section
/-! # Every step keeps the contact table sound -/

namespace Sys2Proof.Machine

/-! ## Contacts that change their state -/

namespace Contact.Sound

variable {c : Contact}

/-- A contact outside CLAIMING that goes to another state than CLAIMING. -/
theorem moved {x : ContactState} (h : c.Sound) (hs : c.state ≠ .claiming) (hx : x ≠ .claiming) :
    ({ c with state := x } : Contact).Sound := by
  have sound := h.outside (h.idlePending_eq_false hs) hx c.solo c.noroom
  rwa [← h.settle_eq_none hs] at sound

/-- A contact that goes to CLAIMING, with its settle timer started (R105). -/
theorem claiming (h : c.Sound) (ms : Nat) :
    ({ c with state := .claiming, noroom := false, settle := startTimer ms } : Contact).Sound := by
  obtain ⟨ring, arrivals, quality, -, holdOff, -⟩ := h
  exact ⟨ring, arrivals, quality, by simp [startTimer], holdOff, fun _ => rfl⟩

theorem release {n : Nat} (h : c.Sound) (ceded : c.cededToClaiming n = true) : c.release.Sound := by
  obtain ⟨k, hk⟩ := Contact.state_of_cededToClaiming ceded
  exact h.moved (by simp [hk]) (by simp)

theorem recordArrival (s : State) (x : Arrival) (h : c.Sound) (hq : x.quality ≤ 63) :
    (s.recordArrival c x).Sound := by
  obtain ⟨-, -, quality, settle, holdOff, -⟩ := h
  refine ⟨?_, Nat.min_le_right _ _, max_le quality hq, settle, holdOff, by simp [State.recordArrival]⟩
  simp only [State.recordArrival, pushRing, List.length_drop]
  omega

theorem recordDuplicate (s : State) (t q : Nat) (h : c.Sound) (hq : q ≤ 63) :
    (s.recordDuplicate c t q).Sound := by
  obtain ⟨ring, arrivals, quality, settle, holdOff, -⟩ := h
  exact ⟨ring, arrivals, max_le quality hq, settle, holdOff, by simp [State.recordDuplicate]⟩

end Contact.Sound

/-- A new contact is neither CLAIMING nor eligible, and nothing has been recorded of it (R23, R25). -/
theorem State.newContact_sound (s : State) (b : Burst) (t : Nat) (on : Bool) : (s.newContact b t on).Sound := by
  have standing : (s.initialStanding b.meter on).1 ≠ .claiming := by
    rcases s.initialStanding_state b.meter on with h | ⟨k, h⟩ <;> simp [h]
  refine ⟨Nat.zero_le _, Nat.zero_le _, Nat.zero_le _, ?_, rfl, by simp [State.newContact]⟩
  simp [State.newContact, standing]

theorem burstQuality_le (bytes : List Byte) (o : Nat) : burstQuality bytes o ≤ 63 :=
  (Nat.sub_le _ _).trans (Nat.min_le_right _ _)

/-! ## The operations -/

/-- Eviction makes room where a contact can be had (R15, R24). -/
theorem State.evict_length (s : State) (h : s.contactAvailable = true)
    (full : s.main.contacts.length ≤ contactLimit) : s.evict.main.contacts.length < contactLimit := by
  unfold State.evict
  split
  · assumption
  · rename_i no_room
    rcases evictionVictim_cases s.main.contacts with ⟨-, none_ceded⟩ | ⟨v, e, mem, -, -⟩
    · rcases s.contactAvailable_iff.1 h with room | ⟨c, hc, ceded⟩
      · exact absurd room no_room
      · simp [none_ceded c hc] at ceded
    · rw [e]
      refine (List.length_filter_lt_length_iff_exists.2 ⟨v, mem, by simp⟩).trans_le full

/-- A burst is ACCEPTED for a meter without a contact only where one can be had (R15). -/
theorem State.contactAvailable_of_accepted {s : State} {f : Frame} (h : (s.judge f).disposition = .accepted)
    (hc : s.contactOf (decodeBurst f.bytes).meter = none) : s.contactAvailable = true := by
  by_contra unavailable
  have refused : (s.judge f).disposition ≠ .accepted := by
    simp only [State.judge, hc, Bool.eq_false_iff.2 unavailable, Bool.false_eq_true, if_false]
    (repeat' split) <;> simp
  exact refused h

namespace Main.ContactsSound

variable {s t : State}

theorem offer (p : Post) (h : s.main.ContactsSound) : (s.offer p).main.ContactsSound :=
  h.congr (s.offer_contacts p)

theorem enterHeld {c : Contact} (h : s.main.ContactsSound) (hc : c.Sound) (hs : c.idlePending = false) :
    (s.enterHeld c).main.ContactsSound :=
  (h.setContact (hc.outside hs (by simp) _ _)).congr (s.enterHeld_contacts c)

theorem attemptClaim (m : MeterId) (h : s.main.ContactsSound) : (s.attemptClaim m).main.ContactsSound := by
  rcases s.attemptClaim_cases m with same | ⟨c, hc, listening, outcome⟩
  · rwa [same]
  have sound := h.sound_of_contactOf hc
  have outside : c.state ≠ .claiming := by simp [listening]
  rcases outcome with ⟨-, e⟩ | ⟨-, ⟨k, -, e⟩ | ⟨-, -, e⟩ | ⟨-, -, e⟩⟩ <;> rw [e]
  · exact h.setContact sound
  · exact h.setContact (sound.moved outside (by simp))
  · exact h.enterHeld sound (sound.idlePending_eq_false outside)
  · rcases s.offerClaim_cases c with ⟨-, e⟩ | ⟨-, e⟩ <;> rw [e]
    · exact (h.offer _).setContact (sound.claiming _)
    · exact h

theorem countedArrival (x : Arrival) (h : s.main.ContactsSound) (hq : x.quality ≤ 63) :
    (s.countedArrival x).main.ContactsSound := by
  unfold State.countedArrival
  split
  · exact h
  · rename_i c hc
    have recorded := (h.sound_of_contactOf hc).recordArrival s x hq
    have followed : ((s.setContact (s.recordArrival c x)).followRecord (s.recordArrival c x)).main.ContactsSound := by
      rw [State.followRecord_main]
      exact h.setContact recorded
    simp only [State.judgeEligibility]
    split
    · exact followed.attemptClaim _
    · split
      · exact (followed.setContact recorded.nowEligible).attemptClaim _
      · exact followed

theorem duplicateArrival (m : MeterId) (t q : Nat) (h : s.main.ContactsSound) (hq : q ≤ 63) :
    (s.duplicateArrival m t q).main.ContactsSound := by
  unfold State.duplicateArrival
  split
  · exact h
  · rename_i c hc
    have recorded := h.setContact ((h.sound_of_contactOf hc).recordDuplicate s t q hq)
    simp only
    split <;> exact recorded

theorem evict (h : s.main.ContactsSound) : s.evict.main.ContactsSound := by
  unfold State.evict
  split
  · exact h
  · split
    · exact h.dropContact _
    · exact h

theorem ensureContact (b : Burst) (t : Nat) (on : Bool) (h : s.main.ContactsSound)
    (room : s.contactOf b.meter = none → s.contactAvailable = true) :
    (s.ensureContact b t on).main.ContactsSound := by
  unfold State.ensureContact
  split
  · exact h
  · rename_i absent
    obtain ⟨order, -, sound⟩ := h.evict
    obtain ⟨-, size, -⟩ := h
    have fits := s.evict_length (room absent) size
    have others : ∀ y ∈ s.evict.main.contacts, y.meter.toNat ≠ b.meter.toNat := fun y hy =>
      BitVec.toNat_ne.1 ((s.contactOf_eq_none_iff b.meter).1 absent y (s.evict_contacts_subset hy))
    refine ⟨pairwise_insertBy _ _ _ order others, ?_, fun x hx => ?_⟩
    · simpa using fits
    · rcases (mem_insertBy _ _ _ _).1 hx with rfl | mem
      · exact s.newContact_sound b t on
      · exact sound x mem

theorem handOver (p : Port) (f : Frame) (h : s.main.ContactsSound) :
    (s.handOver p f (s.judge f)).main.ContactsSound := by
  have quality := burstQuality_le f.bytes (portSettings s.main.cfg p).levelOffset
  simp only [State.handOver]
  split
  · rename_i accepted
    exact (h.ensureContact _ _ _ (State.contactAvailable_of_accepted accepted)).countedArrival _ quality
  · exact h.duplicateArrival _ _ _ quality
  · exact h

theorem passTime (n : Nat) (h : s.main.ContactsSound) : (s.passTime n).main.ContactsSound := by
  rw [State.passTime_main]
  split
  · obtain ⟨order, size, sound⟩ := h
    refine ⟨?_, by simpa [Main.passTime] using size, fun x hx => ?_⟩
    · simpa [Main.passTime, Function.comp_def, Contact.passTime] using order
    · obtain ⟨c, hc, rfl⟩ := List.mem_map.1 hx
      exact (sound c hc).passTime n
  · exact h

/-! ## The timers of a contact -/

/-- A timer that expires lets its time pass: the contact is still in the table, and is sound after that time. -/
theorem contactExpiry {m : MeterId} {timer : Contact → Timer} {act : State → Contact → State}
    (h : s.main.ContactsSound)
    (kept : ∀ (u : State) (c c₀ : Contact), u.main.ContactsSound → c.Sound → u.contactOf c.meter = some c₀ →
      (act u c).main.ContactsSound) : (s.contactExpiry m timer act).main.ContactsSound := by
  unfold State.contactExpiry
  split
  · exact h
  · rename_i c hc
    split
    · exact h
    · rename_i left _
      obtain ⟨c₀, found, -⟩ := State.contactOf_passTime_state hc left
      have sound := (h.sound_of_contactOf hc).passTime left
      obtain ⟨-, rfl⟩ := State.contactOf_some hc
      exact kept _ _ c₀ (h.passTime left) sound found

theorem idleExpired {c : Contact} (h : s.main.ContactsSound) (hc : c.Sound) :
    (s.idleExpired c).main.ContactsSound := by
  unfold State.idleExpired
  split
  · rename_i claiming
    obtain ⟨ring, arrivals, quality, settle, holdOff, -⟩ := hc
    exact h.setContact ⟨ring, arrivals, quality, settle, holdOff, fun _ => claiming⟩
  · exact h.removeContact c.meter

theorem holdOffExpired {c : Contact} (h : s.main.ContactsSound) (hc : c.Sound) :
    (s.holdOffExpired c).main.ContactsSound :=
  (h.setContact hc.nowEligible).attemptClaim _

theorem settleExpired {c c₀ : Contact} (h : s.main.ContactsSound) (hc : c.Sound)
    (found : s.contactOf c.meter = some c₀) : (s.settleExpired c).main.ContactsSound := by
  unfold State.settleExpired State.settleContact
  split
  · split
    · refine h.finishIdle (c := c.asHeld s.main.mute s.ret.nextSeq) found ?_ fun hp => hc.outside hp (by simp) _ _
      rw [State.offer_contacts, State.enterHeld_contacts]
    · refine h.finishIdle (c := { c with state := .listening, noroom := true, settle := none })
        found ?_ fun hp => hc.outside hp (by simp) _ _
      rw [(State.changeEntry_frame _ _ _).1, State.setContact_main, State.setContact_main, State.offer_contacts]
  · exact h

/-! ## Claims heard -/

/-- A contact that cedes leaves CLAIMING; one whose idle expiry was deferred is then removed (R33, R112, R113). -/
theorem cede {x x₀ : Contact} (k : Claim) (h : s.main.ContactsSound) (hx : x.Sound)
    (found : s.contactOf x.meter = some x₀) : ((s.cede x k).finishIdle x.meter).main.ContactsSound :=
  h.finishIdle (c := { x with state := .ceded k, settle := none }) found
    (State.changeEntryState_sameHolding _ _ _).contacts
    fun hp => hx.outside hp (by simp) x.solo x.noroom

theorem claimAtListening {x : Contact} (c : Claim) (h : s.main.ContactsSound) (hx : x.Sound)
    (listening : x.state = .listening) : (s.claimAtListening x c).main.ContactsSound := by
  unfold State.claimAtListening
  split
  · exact h.congr (s.answerAsHolder_sameHolding _ _ _).contacts
  · split
    · have idle := hx.idlePending_eq_false (by simp [listening])
      exact (h.setContact (hx.outside (x := .ceded c) idle (by simp) x.solo x.noroom)).congr
        (State.changeEntryState_sameHolding _ _ _).contacts
    · exact h.congr (s.changeEntryState_sameHolding _ _).contacts

theorem claimAtClaiming {x x₀ : Contact} (c : Claim) (h : s.main.ContactsSound) (hx : x.Sound)
    (found : s.contactOf x.meter = some x₀) : (s.claimAtClaiming x c).main.ContactsSound := by
  unfold State.claimAtClaiming
  split
  · exact h.cede c hx found
  · exact (h.offer _).congr (State.changeEntryState_sameHolding _ _ _).contacts

theorem placeClaim (m : MeterId) (c : Claim) (h : s.main.ContactsSound) :
    (s.placeClaim m c).main.ContactsSound := by
  unfold State.placeClaim
  split
  · exact h
  · split
    · exact h.congr (s.claimAtEntry_sameHolding m c).contacts
    · rename_i x hx
      have sound := h.sound_of_contactOf hx
      obtain ⟨-, rfl⟩ := State.contactOf_some hx
      split
      · exact h.congr (s.answerAsHolder_sameHolding _ _ _).contacts
      · exact h.claimAtListening c sound ‹_›
      · exact h.claimAtClaiming c sound hx
      · rename_i k ceded
        unfold State.claimAtCeded
        split
        · exact (h.setContact (sound.moved (x := .ceded c) (by simp [ceded]) (by simp))).congr
            (State.changeEntryState_sameHolding _ _ _).contacts
        · exact h

/-! ## Claims given up -/

theorem placeYield (m : MeterId) (n : Nat) (h : s.main.ContactsSound) :
    (s.placeYield m n).main.ContactsSound := by
  rcases s.placeYield_cases m n with same | ⟨x, hx, ceded, same⟩
  · exact h.congr same.contacts
  · exact (h.setContact ((h.sound_of_contactOf hx).release ceded)).congr same.contacts

theorem revertPeer (n : Nat) (h : s.main.ContactsSound) : (s.revertPeer n).main.ContactsSound := by
  obtain ⟨reverted, -⟩ := s.revertPeer_frame n
  obtain ⟨order, size, sound⟩ := h
  have keys : (fun x : Contact => (if x.cededToClaiming n then x.release else x).meter.toNat) =
      fun x => x.meter.toNat := by
    funext x
    split <;> rfl
  unfold Main.ContactsSound
  rw [reverted]
  refine ⟨?_, by simpa using size, fun x hx => ?_⟩
  · simpa only [List.map_map, Function.comp_def, keys] using order
  · obtain ⟨c, hc, rfl⟩ := List.mem_map.1 hx
    split
    · exact (sound c hc).release ‹_›
    · exact sound c hc

end Main.ContactsSound

/-! ## The promise -/

/-- An empty contact table is sound, as a start or a loss of the main supply leaves it (R184, R196). -/
theorem Main.contactsSound_of_nil {m : Main} (h : m.contacts = []) : m.ContactsSound := by
  unfold Main.ContactsSound
  rw [h]
  exact ⟨List.Pairwise.nil, Nat.zero_le _, fun c hc => absurd hc List.not_mem_nil⟩

theorem State.stepWalk_contacts (s : State) : s.stepWalk.main.contacts = s.main.contacts := by
  have visited (i : Nat) : (s.visitIndex i).main = s.main := by
    unfold State.visitIndex
    (repeat' split) <;> rfl
  simp only [State.stepWalk]
  split
  · rfl
  · split
    · rw [State.offerStatus_frame, State.write_main, visited]
    · rw [visited]

theorem State.commitDrain_contacts (s : State) (src v : Nat) :
    (s.commitDrain src v).main.contacts = s.main.contacts := by
  unfold State.commitDrain
  split
  · exact (State.formBatch_sameHolding _).contacts.trans (State.releaseAlerts_sameHolding _ _).contacts
  · rfl

/-- The contact table's soundness is a promise about contacts alone. -/
theorem contactsSound_promise : ContactPromise (fun s => s.main.ContactsSound) fun s => s.main.ContactsSound where
  gives := id
  same := fun k h => h.congr k.contacts
  passTime := fun n h => h.passTime n
  handOver := fun p f h => h.handOver p f
  idleExpiry := fun _ h => h.contactExpiry fun _ _ _ hu hc _ => hu.idleExpired hc
  holdOffExpiry := fun _ h => h.contactExpiry fun _ _ _ hu hc _ => hu.holdOffExpired hc
  settleExpiry := fun _ h => h.contactExpiry fun _ _ _ hu hc found => hu.settleExpired hc found
  placeClaim := fun m c h => h.placeClaim m c
  placeYield := fun m n h => h.placeYield m n
  revertPeer := fun n h => h.revertPeer n
  clearContacts := fun {s} _ => Main.contactsSound_of_nil (congrArg Main.contacts s.clearContacts_main)
  stepWalk := fun {s} h => h.congr s.stepWalk_contacts
  started := fun _ _ _ _ => Main.contactsSound_of_nil (State.offerStatus_sameHolding _).contacts
  loseMain := fun {s} cut h => by
    unfold State.loseMain
    split
    · exact Main.contactsSound_of_nil rfl
    · exact h
  loseBackup := fun h => h

/-- Settles O55. -/
theorem contactTableIsKeptSound : Obligations.ContactTableIsKeptSound := by
  unfold Obligations.ContactTableIsKeptSound
  intro s t sound h
  exact contactsSound_promise.step (fun u src v _ k => k.congr (u.commitDrain_contacts src v)) sound h

end Sys2Proof.Machine
end

section
/-! # HELD contacts and OPEN records: the binding on what it reads of the two tables (R36) -/

namespace Sys2Proof.Machine

/-- The binding of `held`, each contact's meter with its RECORD, to `log`, how each record stands: every RECORD is the
SEQUENCE of an OPEN record of the contact's meter, and every OPEN record is some contact's, while the part is powered;
no meter and no SEQUENCE stands twice, and all are below `next`. -/
structure Owning (powered : Bool) (held : List (MeterId × Option Nat)) (log : List (Nat × Bool × Option MeterId))
    (next : Nat) : Prop where
  meters : (held.map Prod.fst).Nodup
  seqs : (log.map Prod.fst).Nodup
  below : ∀ x ∈ log, x.1 < next
  own : powered = true → ∀ m q, (m, some q) ∈ held → (q, true, some m) ∈ log
  owned : powered = true → ∀ q o, (q, true, o) ∈ log → ∃ m, (m, some q) ∈ held

namespace Owning

variable {powered : Bool} {held held' : List (MeterId × Option Nat)} {log log' : List (Nat × Bool × Option MeterId)}
  {next : Nat}

/-- A meter has one contact, and so one RECORD at most. -/
theorem record_unique (h : Owning powered held log next) {m : MeterId} {r r' : Option Nat} (hr : (m, r) ∈ held)
    (hr' : (m, r') ∈ held) : r = r' :=
  congrArg Prod.snd (List.inj_on_of_nodup_map h.meters hr hr' rfl)

theorem perm (h : Owning powered held log next) (p : held'.Perm held) : Owning powered held' log next where
  meters := (p.map Prod.fst).nodup_iff.2 h.meters
  seqs := h.seqs
  below := h.below
  own := fun on m q hq => h.own on m q (p.mem_iff.1 hq)
  owned := fun on q o ho => (h.owned on q o ho).imp fun _ hm => p.mem_iff.2 hm

/-- A contact with no RECORD joins the table. -/
theorem insert (h : Owning powered held log next) {m : MeterId} (hm : ∀ x ∈ held, x.1 ≠ m) :
    Owning powered ((m, none) :: held) log next where
  meters := by
    refine List.nodup_cons.2 ⟨fun hx => ?_, h.meters⟩
    obtain ⟨x, mem, e⟩ := List.mem_map.1 hx
    exact hm x mem e
  seqs := h.seqs
  below := h.below
  own := fun on m' q hq => h.own on m' q (by simpa using hq)
  owned := fun on q o ho => (h.owned on q o ho).imp fun _ hx => List.mem_cons_of_mem _ hx

/-- A contact with no RECORD leaves the table. -/
theorem drop (h : Owning powered held log next) {m : MeterId} (hm : ∀ q, (m, some q) ∉ held) :
    Owning powered (held.filter fun x => x.1 != m) log next where
  meters := h.meters.sublist (List.filter_sublist.map _)
  seqs := h.seqs
  below := h.below
  own := fun on m' q hq => h.own on m' q (List.mem_filter.1 hq).1
  owned := fun on q o ho => by
    obtain ⟨m', mem⟩ := h.owned on q o ho
    refine ⟨m', List.mem_filter.2 ⟨mem, ?_⟩⟩
    simp only [bne_iff_ne]
    rintro rfl
    exact hm q mem

/-- The record that stands at SEQUENCE `q` is closed. -/
def closeAt (q : Nat) (x : Nat × Bool × Option MeterId) : Nat × Bool × Option MeterId :=
  if x.1 = q then (x.1, false, x.2.2) else x

theorem closeAt_fst (q : Nat) (x : Nat × Bool × Option MeterId) : (closeAt q x).1 = x.1 := by
  unfold closeAt
  split <;> rfl

theorem mem_map_closeAt_open {q r : Nat} {o : Option MeterId} :
    (r, true, o) ∈ log.map (closeAt q) ↔ r ≠ q ∧ (r, true, o) ∈ log := by
  simp only [List.mem_map]
  constructor
  · rintro ⟨x, mem, e⟩
    unfold closeAt at e
    split at e
    · simp at e
    · rename_i other
      subst e
      exact ⟨other, mem⟩
  · rintro ⟨other, mem⟩
    exact ⟨_, mem, if_neg other⟩

/-- A HELD contact leaves the table, and its record is closed (R39). -/
theorem close (h : Owning powered held log next) {m : MeterId} {q : Nat} (hq : (m, some q) ∈ held) :
    Owning powered (held.filter fun x => x.1 != m) (log.map (closeAt q)) next where
  meters := h.meters.sublist (List.filter_sublist.map _)
  seqs := by
    rw [List.map_map]
    exact (List.map_congr_left fun x _ => closeAt_fst q x) ▸ h.seqs
  below := fun y hy => by
    obtain ⟨x, mem, rfl⟩ := List.mem_map.1 hy
    exact closeAt_fst q x ▸ h.below x mem
  own := fun on m' r hr => by
    obtain ⟨mem, other⟩ := List.mem_filter.1 hr
    refine mem_map_closeAt_open.2 ⟨?_, h.own on m' r mem⟩
    rintro rfl
    have same := List.inj_on_of_nodup_map h.seqs (h.own on m' r mem) (h.own on m r hq) rfl
    simp only [Prod.mk.injEq, Option.some.injEq, true_and] at same
    simp [same] at other
  owned := fun on r o hr => by
    obtain ⟨other, mem⟩ := mem_map_closeAt_open.1 hr
    obtain ⟨m', hm'⟩ := h.owned on r o mem
    refine ⟨m', List.mem_filter.2 ⟨hm', ?_⟩⟩
    simp only [bne_iff_ne]
    rintro rfl
    exact other (Option.some.inj (h.record_unique hm' hq))

/-- A record with the next SEQUENCE stands apart from all others. -/
theorem seqs_append (h : Owning powered held log next) (b : Bool) (o : Option MeterId) :
    ((log ++ [(next, b, o)]).map Prod.fst).Nodup := by
  simp only [List.map_append, List.map_cons, List.map_nil]
  refine h.seqs.append (List.nodup_singleton _) ?_
  simp only [List.disjoint_singleton, List.mem_map, not_exists, not_and]
  exact fun x mem => Nat.ne_of_lt (h.below x mem)

theorem below_append (h : Owning powered held log next) (b : Bool) (o : Option MeterId) :
    ∀ x ∈ log ++ [(next, b, o)], x.1 < next + 1 := by
  intro x hx
  rcases List.mem_append.1 hx with mem | mem
  · exact Nat.lt_succ_of_lt (h.below x mem)
  · rw [List.mem_singleton.1 mem]
    exact Nat.lt_succ_self next

/-- A contact with no RECORD enters HELD, and its record is opened with the next SEQUENCE (R36). -/
theorem enter (h : Owning powered held log next) {m : MeterId} (hm : (m, none) ∈ held) :
    Owning powered (held.map fun x => if x.1 = m then (m, some next) else x) (log ++ [(next, true, some m)])
      (next + 1) where
  meters := by
    rw [List.map_map]
    refine (List.map_congr_left fun x _ => ?_) ▸ h.meters
    simp only [Function.comp]
    split
    · exact ‹_›
    · rfl
  seqs := h.seqs_append true (some m)
  below := h.below_append true (some m)
  own := fun on m' q hq => by
    obtain ⟨x, mem, e⟩ := List.mem_map.1 hq
    split at e
    · cases e
      exact List.mem_append.2 (.inr (List.mem_singleton.2 rfl))
    · subst e
      exact List.mem_append.2 (.inl (h.own on m' q mem))
  owned := fun on q o hq => by
    rcases List.mem_append.1 hq with mem | mem
    · obtain ⟨m', hm'⟩ := h.owned on q o mem
      refine ⟨m', List.mem_map.2 ⟨_, hm', if_neg ?_⟩⟩
      rintro rfl
      exact Option.some_ne_none _ (h.record_unique hm' hm)
    · cases List.mem_singleton.1 mem
      exact ⟨m, List.mem_map.2 ⟨_, hm, if_pos rfl⟩⟩

/-- A closed record is appended with the next SEQUENCE (R140, R142). -/
theorem append (h : Owning powered held log next) (o : Option MeterId) :
    Owning powered held (log ++ [(next, false, o)]) (next + 1) where
  meters := h.meters
  seqs := h.seqs_append false o
  below := h.below_append false o
  own := fun on m q hq => List.mem_append.2 (.inl (h.own on m q hq))
  owned := fun on q o' hq => by
    rcases List.mem_append.1 hq with mem | mem
    · exact h.owned on q o' mem
    · cases List.mem_singleton.1 mem

/-- Closed records leave the log (R173). -/
theorem release (h : Owning powered held log next) (sub : log'.Sublist log)
    (kept : powered = true → ∀ x ∈ log, x.2.1 = true → x ∈ log') : Owning powered held log' next where
  meters := h.meters
  seqs := h.seqs.sublist (sub.map _)
  below := fun x hx => h.below x (sub.subset hx)
  own := fun on m q hq => kept on _ (h.own on m q hq) rfl
  owned := fun on q o hq => h.owned on q o (sub.subset hq)

/-- Every contact leaves the table, and every OPEN record is closed (R39). -/
theorem clear (h : Owning powered held log next) (sameSeqs : log'.map Prod.fst = log.map Prod.fst)
    (closed : powered = true → ∀ x ∈ log', x.2.1 = false) : Owning powered [] log' next where
  meters := List.nodup_nil
  seqs := sameSeqs ▸ h.seqs
  below := fun x hx => by
    obtain ⟨y, hy, e⟩ := List.mem_map.1 (sameSeqs ▸ List.mem_map_of_mem hx : x.1 ∈ log.map Prod.fst)
    exact e ▸ h.below y hy
  own := fun _ m q hq => absurd hq List.not_mem_nil
  owned := fun on q o hq => Bool.noConfusion (closed on _ hq)

end Owning

end Sys2Proof.Machine
end

section
/-! # HELD contacts own the OPEN records: what each operation leaves of R36 -/

namespace Sys2Proof.Machine

/-- What the binding reads of the contact table. -/
def State.holdings (s : State) : List (MeterId × Option Nat) := s.main.contacts.map fun c => (c.meter, c.record)

/-- What the binding reads of the log. -/
def State.standings (s : State) : List (Nat × Bool × Option MeterId) := s.ret.log.map Record.standing

/-- The binding of the contacts to the records, with what its proof needs of the order of both tables (R20, R36,
R150). -/
def State.Owns (s : State) : Prop := Owning s.powered s.holdings s.standings s.ret.nextSeq

/-! ## The binding, and what R36 says -/

theorem Record.isReadOf_iff (x : Record) (m : MeterId) :
    x.isReadOf m = true ↔ x.readFields.map ReadFields.meter = some m := by
  obtain ⟨q, route, o, mark, alert, body⟩ := x
  cases body <;> simp [Record.isReadOf, Record.readFields]

theorem State.mem_standings_open {s : State} {q : Nat} {m : MeterId} :
    (q, true, some m) ∈ s.standings ↔ ∃ x ∈ s.ret.log, x.seq = q ∧ x.isOpen = true ∧ x.isReadOf m = true := by
  simp only [State.standings, List.mem_map, Record.standing, Prod.mk.injEq, Record.isReadOf_iff]

theorem State.mem_holdings {s : State} {m : MeterId} {r : Option Nat} :
    (m, r) ∈ s.holdings ↔ ∃ c ∈ s.main.contacts, c.meter = m ∧ c.record = r := by
  simp only [State.holdings, List.mem_map, Prod.mk.injEq]

theorem State.Owns.heldOwnOpen {s : State} (h : s.Owns) : s.HeldOwnOpen := by
  refine fun on => ⟨fun c hc q hq => ?_, fun x hx isOpen => ?_⟩
  · exact State.mem_standings_open.1 (h.own on c.meter q (State.mem_holdings.2 ⟨c, hc, rfl, hq⟩))
  · have standing : (x.seq, true, x.readFields.map ReadFields.meter) ∈ s.standings :=
      List.mem_map.2 ⟨x, hx, by rw [Record.standing, isOpen]⟩
    obtain ⟨m, hm⟩ := h.owned on _ _ standing
    obtain ⟨c, hc, -, record⟩ := State.mem_holdings.1 hm
    exact ⟨c, hc, record⟩

theorem State.owns_of_sound {s : State} (table : s.main.ContactsSound) (order : s.ret.LogInOrder)
    (bound : s.HeldOwnOpen) : s.Owns where
  meters := by
    obtain ⟨rising, -, -⟩ := table
    have distinct : (s.main.contacts.map fun c => c.meter.toNat).Nodup := rising.imp fun h => Nat.ne_of_lt h
    rw [State.holdings, List.map_map]
    refine List.Nodup.of_map BitVec.toNat ?_
    rwa [List.map_map]
  seqs := by
    obtain ⟨rising, -, -⟩ := order
    rw [State.standings, List.map_map]
    exact rising.imp fun h => Nat.ne_of_lt h
  below := fun x hx => by
    obtain ⟨-, below, -⟩ := order
    obtain ⟨y, hy, rfl⟩ := List.mem_map.1 hx
    exact (below y hy).2
  own := fun on m q hq => by
    obtain ⟨c, hc, rfl, record⟩ := State.mem_holdings.1 hq
    exact State.mem_standings_open.2 ((bound on).1 c hc q record)
  owned := fun on q o hq => by
    obtain ⟨x, hx, e⟩ := List.mem_map.1 hq
    simp only [Record.standing, Prod.mk.injEq] at e
    obtain ⟨rfl, isOpen, -⟩ := e
    obtain ⟨c, hc, record⟩ := (bound on).2 x hx isOpen
    exact ⟨c.meter, State.mem_holdings.2 ⟨c, hc, rfl, record⟩⟩

/-! ## Contacts without a RECORD -/

theorem Contact.record_eq_none {c : Contact} (h : ∀ q, c.state ≠ .held q) : c.record = none := by
  unfold Contact.record
  split
  · exact absurd ‹_› (h _)
  · rfl

theorem Contact.record_of_held {c : Contact} {q : Nat} (h : c.state = .held q) : c.record = some q := by
  simp [Contact.record, h]

theorem Contact.state_of_record {c : Contact} {q : Nat} (h : c.record = some q) : c.state = .held q := by
  unfold Contact.record at h
  split at h
  · cases h
    assumption
  · simp at h

theorem Contact.record_of_isCeded {c : Contact} (h : c.isCeded = true) : c.record = none := by
  refine Contact.record_eq_none fun q hq => ?_
  simp [Contact.isCeded, hq] at h

/-! How the contacts stand after an operation. -/

theorem State.setContact_holdings (s : State) (c : Contact) :
    (s.setContact c).holdings = s.holdings.map fun x => if x.1 = c.meter then (c.meter, c.record) else x := by
  simp only [State.holdings, State.setContact_main, List.map_map]
  refine List.map_congr_left fun x _ => ?_
  simp only [Function.comp]
  split <;> rfl

theorem State.dropContact_holdings (s : State) (m : MeterId) :
    (s.dropContact m).holdings = s.holdings.filter fun x => x.1 != m := by
  simp only [State.holdings, State.dropContact_main, List.filter_map]
  rfl

theorem insertBy_perm {α : Type} (key : α → Nat) (x : α) (l : List α) : (insertBy key x l).Perm (x :: l) := by
  induction l with
  | nil => exact .refl _
  | cons y ys ih =>
    unfold insertBy
    split
    · exact .refl _
    · exact (ih.cons y).trans (.swap x y ys)

theorem State.newContact_record (s : State) (b : Burst) (t : Nat) (on : Bool) :
    (s.newContact b t on).record = none := by
  refine Contact.record_eq_none fun q => ?_
  show (s.initialStanding b.meter on).1 ≠ _
  rcases s.initialStanding_state b.meter on with h | ⟨k, h⟩ <;> simp [h]

theorem Contact.release_record {x : Contact} {n : Nat} (h : x.cededToClaiming n = true) : x.release.record = x.record := by
  obtain ⟨k, ceded⟩ := Contact.state_of_cededToClaiming h
  simp [Contact.record, Contact.release, ceded]

theorem Contact.record_of_state {c c₀ : Contact} (h : c₀.state = c.state) : c.record = c₀.record := by
  rw [Contact.record, Contact.record, h]

/-! How the records stand after an operation. -/

theorem Retained.close_standings (r : Retained) (q : Nat) :
    (r.updRecord q Record.close).log.map Record.standing = (r.log.map Record.standing).map (Owning.closeAt q) := by
  simp only [Retained.updRecord, List.map_map]
  refine List.map_congr_left fun x _ => ?_
  by_cases e : x.seq = q <;> simp [Record.standing, Owning.closeAt, e, Record.close, Record.isOpen, Record.readFields]

theorem Retained.openRecord_standing (r : Retained) (c : Contact) :
    (r.openRecord c).nextSeq = r.nextSeq + 1 ∧
      (r.openRecord c).log.map Record.standing = r.log.map Record.standing ++ [(r.nextSeq, true, some c.meter)] := by
  rw [Retained.openRecord, Retained.updRunningEntry_frame, Retained.append_log, List.map_append]
  exact ⟨rfl, rfl⟩

theorem Record.follow_standing (r : Retained) (c : Contact) (x : Record) : (x.follow r c).standing = x.standing := by
  obtain ⟨q, route, o, mark, alert, body⟩ := x
  cases body <;> rfl

theorem Record.followDuplicate_standing (r : Retained) (c : Contact) (x : Record) :
    (x.followDuplicate r c).standing = x.standing := by
  obtain ⟨q, route, o, mark, alert, body⟩ := x
  cases body <;> rfl

/-- The update of an OPEN record moves no SEQUENCE, no OPEN-STATE and no meter (R38). -/
theorem State.followRecord_sameHolding (s : State) (c : Contact) : s.SameHolding (s.followRecord c) := by
  unfold State.followRecord
  split
  · rename_i q _
    refine State.SameHolding.trans ?_ (State.raise_sameHolding _ q)
    have updated : (s.ret.updateRecord c q).nextSeq = s.ret.nextSeq ∧
        (s.ret.updateRecord c q).log.map Record.standing = s.ret.log.map Record.standing := by
      rw [Retained.updateRecord, Retained.updRunningEntry_frame]
      exact ⟨rfl, s.ret.updRecord_standing q _ (Record.follow_standing s.ret c)⟩
    exact ⟨rfl, rfl, updated.1, updated.2⟩
  · exact .refl s

/-! ## The operations -/

namespace State.Owns

variable {s t : State}

theorem same (h : s.Owns) (k : s.SameHolding t) : t.Owns := by
  have holdings : t.holdings = s.holdings := by rw [State.holdings, k.contacts]; rfl
  have standings : t.standings = s.standings := k.records
  unfold State.Owns
  rw [k.powered, holdings, standings, k.nextSeq]
  exact h

theorem mem_of_contactOf {m : MeterId} {c : Contact} (hc : s.contactOf m = some c) :
    (m, c.record) ∈ s.holdings := by
  obtain ⟨mem, rfl⟩ := State.contactOf_some hc
  exact State.mem_holdings.2 ⟨c, mem, rfl, rfl⟩

/-- A contact is replaced by one with its RECORD. -/
theorem setContact {c c₀ : Contact} (h : s.Owns) (found : s.contactOf c.meter = some c₀)
    (record : c.record = c₀.record) : (s.setContact c).Owns := by
  have holdings : (s.setContact c).holdings = s.holdings := by
    rw [State.setContact_holdings]
    refine (List.map_congr_left fun x hx => ?_).trans (List.map_id' _)
    split
    · rename_i e
      have mem : (c.meter, x.2) ∈ s.holdings := by
        rw [← e]
        exact hx
      exact Prod.ext e.symm (record.trans (h.record_unique mem (mem_of_contactOf found)).symm)
    · rfl
  unfold State.Owns
  rw [holdings]
  exact h

/-- A contact without a RECORD is dropped. -/
theorem dropContact {m : MeterId} {c : Contact} (h : s.Owns) (found : s.contactOf m = some c)
    (record : c.record = none) : (s.dropContact m).Owns := by
  unfold State.Owns
  rw [State.dropContact_holdings]
  exact h.drop fun q hq =>
    Option.some_ne_none q ((h.record_unique hq (mem_of_contactOf found)).trans record)

theorem removeContact (m : MeterId) (h : s.Owns) : (s.removeContact m).Owns := by
  rcases s.removeContact_cases m with ⟨-, e⟩ | ⟨c, hc, ⟨q, held, e⟩ | ⟨claiming, e⟩ | ⟨free, e⟩⟩ <;> rw [e]
  · exact h
  · have closed := h.close (Contact.record_of_held held ▸ mem_of_contactOf hc)
    unfold State.Owns
    rw [State.dropContact_holdings, State.standings, State.dropContact_ret, State.write_ret, Retained.close_standings]
    exact closed
  · exact (h.same (.of_ret rfl rfl rfl)).dropContact hc (Contact.record_eq_none (by simp [claiming]))
  · refine h.dropContact hc (Contact.record_eq_none fun q hq => ?_)
    rcases free with free | ⟨k, free⟩ <;> simp [hq] at free

theorem finishIdle (m : MeterId) (h : s.Owns) : (s.finishIdle m).Owns := by
  unfold State.finishIdle
  split
  · exact h
  · split
    · exact h.removeContact m
    · exact h

/-- A contact without a RECORD enters HELD (R36). -/
theorem enterHeld {c c₀ : Contact} (h : s.Owns) (found : s.contactOf c.meter = some c₀)
    (record : c₀.record = none) : (s.enterHeld c).Owns := by
  rw [State.enterHeld_eq]
  refine same ?_ (State.raise_sameHolding _ _)
  obtain ⟨nextSeq, standings⟩ := s.ret.openRecord_standing (c.asHeld s.main.mute s.ret.nextSeq)
  unfold State.Owns
  rw [State.setContact_holdings, State.standings, State.setContact_ret, State.write_ret, nextSeq, standings]
  exact h.enter (record ▸ mem_of_contactOf found)

/-! ## Arrivals -/

theorem attemptClaim (m : MeterId) (h : s.Owns) : (s.attemptClaim m).Owns := by
  rcases s.attemptClaim_cases m with same | ⟨c, hc, listening, outcome⟩
  · rwa [same]
  have free : c.record = none := Contact.record_eq_none (by simp [listening])
  obtain ⟨-, rfl⟩ := State.contactOf_some hc
  rcases outcome with ⟨-, e⟩ | ⟨-, ⟨k, -, e⟩ | ⟨-, -, e⟩ | ⟨-, -, e⟩⟩ <;> rw [e]
  · exact h.setContact hc rfl
  · exact h.setContact (c := { c with state := .ceded k }) hc free.symm
  · exact h.enterHeld hc free
  · rcases s.offerClaim_cases c with ⟨-, e⟩ | ⟨-, e⟩ <;> rw [e]
    · refine (h.same (s.offer_sameHolding _)).setContact (c₀ := c) ?_ free.symm
      exact (State.contactOf_congr (s.offer_contacts _) _).trans hc
    · exact h

theorem countedArrival (x : Arrival) (h : s.Owns) : (s.countedArrival x).Owns := by
  unfold State.countedArrival
  split
  · exact h
  · rename_i c hc
    obtain ⟨-, meter⟩ := State.contactOf_some hc
    have hc' : s.contactOf (s.recordArrival c x).meter = some c := meter ▸ hc
    let c' := s.recordArrival c x
    let u := (s.setContact c').followRecord c'
    have kept := State.followRecord_sameHolding (s.setContact c') c'
    have followed : u.Owns := (h.setContact hc' rfl).same kept
    have found : u.contactOf c'.meter = some c' :=
      (State.contactOf_congr kept.contacts _).trans (State.contactOf_setContact hc')
    show (u.judgeEligibility c').Owns
    unfold State.judgeEligibility
    split
    · exact followed.attemptClaim _
    · split
      · exact (followed.setContact (c := c'.nowEligible) found rfl).attemptClaim _
      · exact followed

theorem duplicateArrival (m : MeterId) (t q : Nat) (h : s.Owns) : (s.duplicateArrival m t q).Owns := by
  unfold State.duplicateArrival
  split
  · exact h
  · rename_i c hc
    obtain ⟨-, rfl⟩ := State.contactOf_some hc
    have recorded : (s.setContact (s.recordDuplicate c t q)).Owns := h.setContact hc rfl
    simp only
    split
    · rename_i n _
      refine recorded.same ⟨rfl, rfl, rfl, ?_⟩
      exact Retained.updRecord_standing _ n _ (Record.followDuplicate_standing _ _)
    · exact recorded

theorem evict (h : s.Owns) : s.evict.Owns := by
  unfold State.evict
  split
  · exact h
  · rcases evictionVictim_cases s.main.contacts with ⟨e, -⟩ | ⟨v, e, mem, ceded, -⟩ <;> rw [e]
    · exact h
    · have free := Contact.record_of_isCeded ceded
      unfold State.Owns
      rw [State.dropContact_holdings]
      refine h.drop fun q hq => Option.some_ne_none q ?_
      exact h.record_unique hq (State.mem_holdings.2 ⟨v, mem, rfl, free⟩)

theorem ensureContact (b : Burst) (t : Nat) (on : Bool) (h : s.Owns) : (s.ensureContact b t on).Owns := by
  unfold State.ensureContact
  split
  · exact h
  · rename_i absent
    have others : ∀ x ∈ s.evict.holdings, x.1 ≠ b.meter := by
      rintro ⟨m, r⟩ hx
      obtain ⟨c, hc, rfl, -⟩ := State.mem_holdings.1 hx
      exact (s.contactOf_eq_none_iff b.meter).1 absent c (s.evict_contacts_subset hc)
    have joined : (s.evict.addContact (s.newContact b t on)).holdings.Perm ((b.meter, none) :: s.evict.holdings) := by
      rw [← State.newContact_record s b t on]
      exact (insertBy_perm _ (s.newContact b t on) s.evict.main.contacts).map fun c => (c.meter, c.record)
    exact (h.evict.insert others).perm joined

theorem handOver (p : Port) (f : Frame) (v : Verdict) (h : s.Owns) : (s.handOver p f v).Owns := by
  simp only [State.handOver]
  split
  · exact (h.ensureContact _ _ _).countedArrival _
  · exact h.duplicateArrival _ _ _
  · exact h

/-! ## Time -/

theorem passTime (n : Nat) (h : s.Owns) : (s.passTime n).Owns := by
  have holdings : (s.passTime n).holdings = s.holdings := by
    rw [State.holdings, State.passTime_main]
    split
    · simp only [Main.passTime, List.map_map]
      rfl
    · rfl
  have ret : (s.passTime n).ret.nextSeq = s.ret.nextSeq ∧ (s.passTime n).ret.log = s.ret.log := by
    rw [State.passTime_ret]
    split
    · unfold Retained.passTime
      split <;> exact ⟨rfl, rfl⟩
    · exact ⟨rfl, rfl⟩
  unfold State.Owns
  rw [holdings, State.standings, ret.1, ret.2]
  exact h

/-! ## The timers of a contact -/

theorem contactExpiry {m : MeterId} {timer : Contact → Timer} {act : State → Contact → State} (h : s.Owns)
    (kept : ∀ (u : State) (c c₀ : Contact), u.Owns → u.contactOf c.meter = some c₀ → c.record = c₀.record →
      (act u c).Owns) : (s.contactExpiry m timer act).Owns := by
  unfold State.contactExpiry
  split
  · exact h
  · rename_i c hc
    split
    · exact h
    · rename_i left _
      obtain ⟨c₀, found, state⟩ := State.contactOf_passTime_state hc left
      obtain ⟨-, rfl⟩ := State.contactOf_some hc
      exact kept _ (c.passTime left) c₀ (h.passTime left) found (Contact.record_of_state state)

theorem idleExpired {c c₀ : Contact} (h : s.Owns) (found : s.contactOf c.meter = some c₀)
    (record : c.record = c₀.record) : (s.idleExpired c).Owns := by
  unfold State.idleExpired
  split
  · exact h.setContact (c := { c with idlePending := true, idle := none }) found record
  · exact h.removeContact c.meter

theorem holdOffExpired {c c₀ : Contact} (h : s.Owns) (found : s.contactOf c.meter = some c₀)
    (record : c.record = c₀.record) : (s.holdOffExpired c).Owns :=
  (h.setContact (c := c.nowEligible) found record).attemptClaim _

theorem settleExpired {c c₀ : Contact} (h : s.Owns) (found : s.contactOf c.meter = some c₀)
    (record : c.record = c₀.record) : (s.settleExpired c).Owns := by
  unfold State.settleExpired State.settleContact
  split
  · rename_i claiming
    have free : c₀.record = none := record.symm.trans (Contact.record_eq_none (by simp [claiming]))
    split
    · exact ((h.enterHeld found free).same (State.offer_sameHolding _ _)).finishIdle _
    · have found' : (s.offer (yieldPost c.meter)).contactOf c.meter = some c₀ :=
        (State.contactOf_congr (s.offer_contacts _) _).trans found
      have yielded := (h.same (s.offer_sameHolding (yieldPost c.meter))).setContact
        (c := { c with state := .listening, noroom := true, settle := none }) found' free.symm
      exact (yielded.same (State.changeEntry_sameHolding _ _ _)).finishIdle _
  · exact h

/-! ## Claims heard and given up -/

theorem cede {x x₀ : Contact} (k : Claim) (h : s.Owns) (found : s.contactOf x.meter = some x₀)
    (free : x₀.record = none) : (s.cede x k).Owns :=
  (h.setContact (c := { x with state := .ceded k, settle := none }) found free.symm).same
    (State.changeEntryState_sameHolding _ _ _)

theorem placeClaim (m : MeterId) (c : Claim) (h : s.Owns) : (s.placeClaim m c).Owns := by
  unfold State.placeClaim
  split
  · exact h
  · split
    · exact h.same (s.claimAtEntry_sameHolding m c)
    · rename_i x hx
      obtain ⟨-, rfl⟩ := State.contactOf_some hx
      split
      · exact h.same (s.answerAsHolder_sameHolding _ _ _)
      · rename_i listening
        unfold State.claimAtListening
        split
        · exact h.same (s.answerAsHolder_sameHolding _ _ _)
        · split
          · exact h.cede c hx (Contact.record_eq_none (by simp [listening]))
          · exact h.same (s.changeEntryState_sameHolding _ _)
      · rename_i claiming
        unfold State.claimAtClaiming
        split
        · exact (h.cede c hx (Contact.record_eq_none (by simp [claiming]))).finishIdle _
        · exact (h.same (s.offer_sameHolding _)).same (State.changeEntryState_sameHolding _ _ _)
      · rename_i k ceded
        have free : x.record = none := Contact.record_eq_none (by simp [ceded])
        unfold State.claimAtCeded
        split
        · exact (h.setContact (c := { x with state := .ceded c }) hx free.symm).same
            (State.changeEntryState_sameHolding _ _ _)
        · exact h

theorem placeYield (m : MeterId) (n : Nat) (h : s.Owns) : (s.placeYield m n).Owns := by
  rcases s.placeYield_cases m n with same | ⟨x, hx, ceded, same⟩
  · exact h.same same
  · obtain ⟨-, rfl⟩ := State.contactOf_some hx
    exact (h.setContact (c := x.release) hx (Contact.release_record ceded)).same same

theorem revertPeer (n : Nat) (h : s.Owns) : (s.revertPeer n).Owns := by
  obtain ⟨contacts, powered, nextSeq, log⟩ := s.revertPeer_frame n
  have holdings : (s.revertPeer n).holdings = s.holdings := by
    rw [State.holdings, contacts, State.holdings, List.map_map]
    refine List.map_congr_left fun x _ => ?_
    simp only [Function.comp]
    split
    · exact Prod.ext rfl (Contact.release_record ‹_›)
    · rfl
  unfold State.Owns
  rw [powered, holdings, State.standings, nextSeq, log]
  exact h

/-! ## The close of a route, and the release of records -/

theorem clearContacts (h : s.Owns) : s.clearContacts.Owns := by
  obtain ⟨-, -, powered, -⟩ := s.clearContacts_frame
  have ret := s.clearContacts_ret
  have holdings : s.clearContacts.holdings = [] := by
    rw [State.holdings, State.clearContacts_main]
    rfl
  unfold State.Owns
  rw [holdings, powered, State.standings, ret]
  refine h.clear ?_ fun on y hy => ?_
  · simp only [State.standings, List.map_map]
    rfl
  · simp only [List.map_map, List.mem_map, Function.comp] at hy
    obtain ⟨x, hx, rfl⟩ := hy
    show (Record.isOpen _) = false
    simp only [Record.isOpen]
    split
    · rfl
    · rename_i unowned
      by_contra isOpen
      have standing : (x.seq, true, x.readFields.map ReadFields.meter) ∈ s.standings :=
        List.mem_map.2 ⟨x, hx, by rw [Record.standing, Record.isOpen, Bool.of_not_eq_false isOpen]⟩
      obtain ⟨m, hm⟩ := h.owned on _ _ standing
      obtain ⟨c, hc, -, record⟩ := State.mem_holdings.1 hm
      exact unowned ⟨c, hc, Contact.state_of_record record⟩

/-- A write that appends a closed record, or leaves the log as it is. -/
theorem write_closed {f : Retained → Retained} (h : s.Owns)
    (hf : ((f s.ret).nextSeq = s.ret.nextSeq ∧ (f s.ret).log = s.ret.log) ∨
      ∃ o, (f s.ret).nextSeq = s.ret.nextSeq + 1 ∧
        (f s.ret).log.map Record.standing = s.standings ++ [(s.ret.nextSeq, false, o)]) : (s.write f).Owns := by
  rcases hf with ⟨nextSeq, log⟩ | ⟨o, nextSeq, log⟩
  · exact h.same (.write nextSeq log)
  · unfold State.Owns
    rw [State.standings, State.write_ret, nextSeq, log]
    exact h.append o

theorem visitIndex (i : Nat) (h : s.Owns) : (s.visitIndex i).Owns := by
  unfold State.visitIndex
  split
  · exact h
  · rename_i e _
    split
    · split
      · refine h.write_closed ?_
        unfold Retained.missHere
        split
        · exact .inr ⟨_, rfl, List.map_append⟩
        · exact .inl ⟨rfl, rfl⟩
      · exact h.write_closed (.inl ⟨rfl, rfl⟩)
    · exact h

theorem stepWalk (h : s.Owns) : s.stepWalk.Owns := by
  simp only [State.stepWalk]
  split
  · exact h
  · have visited := h.visitIndex s.main.walk
    split
    · refine (visited.write_closed ?_).same (State.offerStatus_sameHolding _)
      unfold Retained.endRoute
      by_cases room : (s.visitIndex s.main.walk).ret.nextSeq ≤ seqMax
      · rw [if_pos room]
        exact .inr ⟨_, rfl, List.map_append⟩
      · rw [if_neg room]
        exact .inl ⟨rfl, rfl⟩
    · exact visited.same (.of_ret rfl rfl rfl)

/-- A COMMIT releases members of the batch, and these are CLOSED (R168, R173). -/
theorem commitDrain (src v : Nat) (h : s.Owns)
    (closed : s.powered = true → ∀ x ∈ s.ret.log, x.seq ∈ s.main.drain.batch → x.isOpen = false) :
    (s.commitDrain src v).Owns := by
  unfold State.commitDrain
  split
  · have kept : ((s.ret.commit s.main.drain.batch v).log.map Record.standing) =
        (s.ret.log.filter fun x => !(s.main.drain.batch.contains x.seq && decide (x.seq ≤ v))).map
          Record.standing :=
      map_standing (Record.withMark .unsent) (fun x => s.main.drain.batch.contains x.seq = true) (fun _ => rfl) _
    have committed : (s.write (Retained.commit s.main.drain.batch v)).Owns := by
      unfold State.Owns
      rw [State.standings, State.write_ret, kept]
      refine h.release (List.filter_sublist.map _) fun on y hy isOpen => ?_
      obtain ⟨x, hx, rfl⟩ := List.mem_map.1 hy
      refine List.mem_map_of_mem (List.mem_filter.2 ⟨hx, ?_⟩)
      have apart : x.seq ∉ s.main.drain.batch := fun mem => by
        have isClosed : x.isOpen = false := closed on x hx mem
        exact Bool.noConfusion (isClosed.symm.trans isOpen)
      simp [apart]
    exact (committed.same (State.releaseAlerts_sameHolding _ _)).same
      ((State.formBatch_sameHolding _).after rfl rfl rfl)
  · exact h

end State.Owns

/-! ## Starts and losses of supply -/

theorem Record.restore_restore (x : Record) : x.restore.restore = x.restore := by
  obtain ⟨q, route, o, mark, alert, body⟩ := x
  cases alert <;> rfl

/-- The visit of a RESTORED start closes every record (R162). -/
theorem State.visitLog_closed (s : State) : ∀ x ∈ s.visitLog.ret.log, x.isOpen = false := by
  obtain ⟨-, -, -, -, ret⟩ := State.foldl_write_frame
    (fun (x : Record) r => r.updRecord x.seq Record.restore) (s.ret.log.filter fun x => x.restore != x) s
  rw [State.visitLog, ret, ← List.foldl_map (f := Record.seq) (g := fun r q => Retained.updRecord r q Record.restore),
    Retained.foldl_updRecord Record.restore (fun _ => rfl) Record.restore_restore]
  intro x hx
  obtain ⟨y, hy, rfl⟩ := List.mem_map.1 hx
  split
  · rfl
  · rename_i unvisited
    have unchanged : y.restore = y := by
      by_contra changes
      exact unvisited (List.mem_map_of_mem (List.mem_filter.2 ⟨hy, by simpa using changes⟩))
    rw [← unchanged]
    rfl

/-- A start leaves no OPEN record and no contact (R162, R195, R196). -/
theorem State.started_heldOwnOpen (s : State) (strap : Nat) (block : List Byte) (pins : Pins) :
    (s.started strap block pins).HeldOwnOpen := by
  have contacts : (s.started strap block pins).main.contacts = [] :=
    (State.offerStatus_sameHolding _).contacts
  have ret : (s.started strap block pins).ret = s.decideCause.ret := State.offerStatus_ret _
  have closed : ∀ x ∈ s.decideCause.ret.log, x.isOpen = false := by
    unfold State.decideCause
    split
    · exact s.visitLog_closed
    · exact fun x hx => absurd hx List.not_mem_nil
  refine fun _ => ⟨fun c hc => ?_, fun x hx isOpen => ?_⟩
  · rw [contacts] at hc
    exact absurd hc List.not_mem_nil
  · rw [closed x (ret ▸ hx)] at isOpen
    exact Bool.noConfusion isOpen

/-- HELD contacts own the OPEN records: what every operation keeps, and a start or a loss of supply leaves. -/
theorem owns_promise : ContactPromise State.Owns State.HeldOwnOpen where
  gives := fun h => h.heldOwnOpen
  same := fun k h => h.same k
  passTime := fun n h => h.passTime n
  handOver := fun p f h => h.handOver p f _
  idleExpiry := fun _ h => h.contactExpiry fun _ _ _ hu found record => hu.idleExpired found record
  holdOffExpiry := fun _ h => h.contactExpiry fun _ _ _ hu found record => hu.holdOffExpired found record
  settleExpiry := fun _ h => h.contactExpiry fun _ _ _ hu found record => hu.settleExpired found record
  placeClaim := fun m c h => h.placeClaim m c
  placeYield := fun m n h => h.placeYield m n
  revertPeer := fun n h => h.revertPeer n
  clearContacts := fun h => h.clearContacts
  stepWalk := fun h => h.stepWalk
  started := fun {s} strap block pins _ => s.started_heldOwnOpen strap block pins
  loseMain := fun {s} cut h => by
    unfold State.loseMain
    split
    · exact fun on => Bool.noConfusion on
    · exact (h.same (.of_ret rfl rfl rfl)).heldOwnOpen
  loseBackup := fun {s} h on => by
    have powered : s.powered = true := on
    have kept := h.heldOwnOpen on
    simpa [State.loseBackup, powered] using kept

/-- Settles O58. -/
theorem heldContactsOwnOpenRecords : Obligations.HeldContactsOwnOpenRecords := by
  unfold Obligations.HeldContactsOwnOpenRecords
  rintro s t ⟨⟨⟨order, -⟩, -⟩, table, -, -, bound, -, marks⟩ h
  refine owns_promise.step (fun u src v hu k => k.commitDrain src v fun on x hx mem => ?_)
    (State.owns_of_sound table order bound) h
  rw [hu.powered] at on
  rw [hu.ret] at hx
  rw [hu.drain] at mem
  obtain ⟨-, -, -, agree⟩ := marks on
  obtain ⟨sent, closed⟩ := agree x hx
  exact closed (sent.2 mem)

end Sys2Proof.Machine
end

section
/-! # The timers of a contact: idle, hold-off and settle expiry, and the claim attempt -/

namespace Sys2Proof.Machine

/-! ## Rules of the contact table -/

theorem State.setContact_setContact (s : State) {c c' : Contact} (h : c'.meter = c.meter) :
    (s.setContact c).setContact c' = s.setContact c' := by
  have twice : (s.main.contacts.map fun x => if x.meter = c.meter then c else x).map
      (fun x => if x.meter = c'.meter then c' else x) =
      s.main.contacts.map fun x => if x.meter = c'.meter then c' else x := by
    rw [List.map_map]
    refine List.map_congr_left fun x _ => ?_
    simp only [Function.comp, h]
    split <;> simp [*]
  simp only [State.setContact, twice]

/-- An offer does not read the contact table. -/
theorem State.offer_setContact (s : State) (c : Contact) (p : Post) :
    (s.setContact c).offer p = (s.offer p).setContact c := by
  have takes : (s.setContact c).takesOffer p = s.takesOffer p := rfl
  rcases s.offer_cases p with ⟨h, e⟩ | ⟨h, e⟩
  · rw [e, State.offer, takes, if_pos h]
    rfl
  · rw [e, State.offer, takes, h]
    rfl

section

variable {s : State} {m : MeterId} {c : Contact} (found : s.contactOf m = some c)
include found

theorem State.removeContact_of_held {q : Nat} (h : c.state = .held q) :
    s.removeContact m = (s.write fun r => r.updRecord q Record.close).dropContact m := by
  simp [State.removeContact, found, h]

theorem State.removeContact_of_listening (h : c.state = .listening) : s.removeContact m = s.dropContact m := by
  simp [State.removeContact, found, h]

theorem State.removeContact_of_isCeded (h : c.isCeded = true) : s.removeContact m = s.dropContact m := by
  unfold Contact.isCeded at h
  split at h
  · rename_i ceded
    simp [State.removeContact, found, ceded]
  · simp at h

/-- A running timer of a contact that expires lets its time pass, on the contact as well, and then acts. -/
theorem State.contactExpiry_of_running {timer : Contact → Timer} {left : Nat} (act : State → Contact → State)
    (running : timer c = some left) :
    s.contactExpiry m timer act = act (s.passTime left) (c.passTime left) := by
  simp [State.contactExpiry, found, running]

end

/-! ## Idle expiry -/

theorem State.idleExpired_of_claiming {s : State} {c : Contact} (h : c.state = .claiming) :
    s.idleExpired c = s.setContact { c with idlePending := true, idle := none } := if_pos h

theorem State.idleExpired_elsewhere {s : State} {c : Contact} (h : c.state ≠ .claiming) :
    s.idleExpired c = s.removeContact c.meter := if_neg h

/-- Settles O13: the contact is found again after the time left, and its state says what its removal does. -/
theorem idleExpiryActsByState : Obligations.IdleExpiryActsByState := by
  unfold Obligations.IdleExpiryActsByState
  intro m s c left powered found running u
  have expired : exec (.idleExpiry m) s = .next (u.idleExpired (c.passTime left)) :=
    congrArg Host.Outcome.next (State.contactExpiry_of_running (s := s.begin) found State.idleExpired running)
  have found' : u.contactOf m = some (c.passTime left) := State.contactOf_passTime (s := s.begin) powered found left
  obtain ⟨-, meter⟩ := State.contactOf_some found
  have removed (h : c.state ≠ .claiming) : u.idleExpired (c.passTime left) = u.removeContact m :=
    meter ▸ State.idleExpired_elsewhere (c := c.passTime left) h
  refine ⟨fun h => ?_, fun q held => ?_, fun claiming => ?_⟩
  · rcases h with listening | ceded
    · rw [expired, removed (by simp [listening]), State.removeContact_of_listening found' listening]
    · have elsewhere : c.state ≠ .claiming := fun claiming => by simp [Contact.isCeded, claiming] at ceded
      rw [expired, removed elsewhere, State.removeContact_of_isCeded found' ceded]
  · rw [expired, removed (by simp [held]), State.removeContact_of_held found' held]
    rfl
  · rw [expired, State.idleExpired_of_claiming (c := c.passTime left) claiming]

/-! ## Claim attempts -/

/-- Room for a record, with the reserved one (R152, R154). -/
theorem Retained.room_iff (r : Retained) :
    r.room = true ↔ r.log.length + (if r.reserved = true then 1 else 0) < 4096 ∧
      r.nextSeq + (if r.reserved = true then 1 else 0) ≤ 4294967295 := by
  cases h : r.reserved <;> simp [Retained.room, h, logLimit, seqMax]

theorem Retained.runningEntryOf_eq_some_iff (r : Retained) (m : MeterId) (e : RouteEntry) :
    r.runningEntryOf m = some e ↔ r.routeState = .running ∧ r.entryOf m = some e := by
  unfold Retained.runningEntryOf
  split <;> simp [*]

/-- The claimant of a RUNNING route's entry that beats this station's claim (R98, R102). -/
theorem State.betterClaimant_eq_some_iff (s : State) (c : Contact) (k : Claim) :
    s.betterClaimant c = some k ↔
      s.ret.routeState = .running ∧ (∃ e, s.ret.entryOf c.meter = some e ∧ e.state.claimant = some k) ∧
        k.beats { station := s.ownNumber, quality := c.bestQuality, hold := .claiming } = true := by
  have claimant (k : Claim) : ((s.ret.runningEntryOf c.meter).bind fun e => e.state.claimant) = some k ↔
      s.ret.routeState = .running ∧ ∃ e, s.ret.entryOf c.meter = some e ∧ e.state.claimant = some k := by
    simp only [Option.bind_eq_some_iff, Retained.runningEntryOf_eq_some_iff, and_assoc, exists_and_left]
  unfold State.betterClaimant
  split
  · rename_i k' hk'
    rw [← and_assoc, ← claimant, hk']
    constructor
    · intro h
      split at h
      · cases h
        exact ⟨rfl, ‹_›⟩
      · simp at h
    · rintro ⟨h, beats⟩
      cases h
      exact if_pos beats
  · rename_i none_claims
    rw [← and_assoc, ← claimant, none_claims]
    simp

theorem State.betterClaimant_eq_none {s : State} {c : Contact} (h : ∀ k, ¬ (s.ret.routeState = .running ∧
    (∃ e, s.ret.entryOf c.meter = some e ∧ e.state.claimant = some k) ∧
      k.beats { station := s.ownNumber, quality := c.bestQuality, hold := .claiming } = true)) :
    s.betterClaimant c = none :=
  Option.eq_none_iff_forall_ne_some.2 fun k hk => h k ((s.betterClaimant_eq_some_iff c k).1 hk)

section

variable {s : State} {m : MeterId} {c : Contact} (found : s.contactOf m = some c)
include found

theorem State.attemptClaim_elsewhere (h : c.state ≠ .listening) : s.attemptClaim m = s := by
  simp [State.attemptClaim, found, h]

variable (listening : c.state = .listening)
include listening

theorem State.attemptClaim_noroom (h : s.ret.room = false) :
    s.attemptClaim m = s.setContact { c with noroom := true } := by
  simp [State.attemptClaim, found, listening, h]

variable (room : s.ret.room = true)
include room

theorem State.attemptClaim_ceded {k : Claim} (h : s.betterClaimant c = some k) :
    s.attemptClaim m = s.setContact { c with state := .ceded k } := by
  simp [State.attemptClaim, found, listening, room, h]

variable (best : s.betterClaimant c = none)
include best

theorem State.attemptClaim_held (h : c.reread = true ∨ s.main.mute = true) : s.attemptClaim m = s.enterHeld c := by
  simp [State.attemptClaim, found, listening, room, best, h]

theorem State.attemptClaim_offers (reread : c.reread = false) (mute : s.main.mute = false) :
    s.attemptClaim m = s.offerClaim c := by
  simp [State.attemptClaim, found, listening, room, best, reread, mute]

end

/-- A CLAIMING CLAIM that is admitted takes its contact to CLAIMING, and one that is refused leaves it (R105). -/
theorem State.offerClaim_of_takesOffer {s : State} {c : Contact}
    (h : s.takesOffer (claimPost c.meter c.bestQuality .claiming) = true) :
    s.offerClaim c = (s.offer (claimPost c.meter c.bestQuality .claiming)).setContact
      { c with state := .claiming, noroom := false, settle := startTimer (s.main.cfg.settle * 100) } := by
  simp [State.offerClaim, h]

theorem State.offerClaim_of_refused {s : State} {c : Contact}
    (h : s.takesOffer (claimPost c.meter c.bestQuality .claiming) = false) : s.offerClaim c = s := by
  simp [State.offerClaim, h]

/-! A claim attempt of a contact that has just been replaced. -/

section

variable {s : State} {c c₀ : Contact} (found : s.contactOf c.meter = some c₀) (listening : c.state = .listening)
include found listening

theorem State.attemptClaim_setContact_noroom (h : s.ret.room = false) :
    (s.setContact c).attemptClaim c.meter = s.setContact { c with noroom := true } :=
  (State.attemptClaim_noroom (State.contactOf_setContact found) listening h).trans (s.setContact_setContact rfl)

variable (room : s.ret.room = true)
include room

theorem State.attemptClaim_setContact_ceded {k : Claim} (h : s.betterClaimant c = some k) :
    (s.setContact c).attemptClaim c.meter = s.setContact { c with state := .ceded k } :=
  (State.attemptClaim_ceded (State.contactOf_setContact found) listening room h).trans (s.setContact_setContact rfl)

variable (best : s.betterClaimant c = none)
include best

theorem State.attemptClaim_setContact_held (h : c.reread = true ∨ s.main.mute = true) :
    (s.setContact c).attemptClaim c.meter = (s.setContact c).enterHeld c :=
  State.attemptClaim_held (State.contactOf_setContact found) listening room best h

variable (reread : c.reread = false) (mute : s.main.mute = false)
include reread mute

theorem State.attemptClaim_setContact_taken (h : s.takesOffer (claimPost c.meter c.bestQuality .claiming) = true) :
    (s.setContact c).attemptClaim c.meter = (s.offer (claimPost c.meter c.bestQuality .claiming)).setContact
      { c with state := .claiming, noroom := false, settle := startTimer (s.main.cfg.settle * 100) } := by
  rw [State.attemptClaim_offers (State.contactOf_setContact found) listening room best reread mute,
    State.offerClaim_of_takesOffer (s := s.setContact c) h, State.offer_setContact]
  exact State.setContact_setContact _ rfl

theorem State.attemptClaim_setContact_refused (h : s.takesOffer (claimPost c.meter c.bestQuality .claiming) = false) :
    (s.setContact c).attemptClaim c.meter = s.setContact c := by
  rw [State.attemptClaim_offers (State.contactOf_setContact found) listening room best reread mute,
    State.offerClaim_of_refused (s := s.setContact c) h]

end

/-! ## Hold-off expiry -/

@[simp] theorem State.passTime_strap (s : State) (n : Nat) : (s.passTime n).main.strap = s.main.strap := by
  rw [State.passTime_main]
  split <;> rfl

@[simp] theorem State.passTime_mute (s : State) (n : Nat) : (s.passTime n).main.mute = s.main.mute := by
  rw [State.passTime_main]
  split <;> rfl

@[simp] theorem State.passTime_ownNumber (s : State) (n : Nat) : (s.passTime n).ownNumber = s.ownNumber := by
  simp [State.ownNumber]

/-- The hold-off expiry of a contact in the table: it becomes eligible, and a claim attempt is called for (R34, R35). -/
theorem exec_holdOffExpiry {m : MeterId} {s : State} {c : Contact} {left : Nat} (found : s.contactOf m = some c)
    (running : c.holdOff = some left) :
    exec (.holdOffExpiry m) s =
      .next (((s.begin.passTime left).setContact (c.passTime left).nowEligible).attemptClaim m) := by
  have expired := State.contactExpiry_of_running (s := s.begin) found State.holdOffExpired running
  obtain ⟨-, rfl⟩ := State.contactOf_some found
  exact congrArg Host.Outcome.next expired

/-- Settles O14: the five tests in order, on the state as it is and on the one the time left leaves. -/
theorem holdOffExpiryMakesClaimAttempt : Obligations.HoldOffExpiryMakesClaimAttempt := by
  unfold Obligations.HoldOffExpiryMakesClaimAttempt
  refine ⟨Retained.room_iff, ?_, ?_, ?_⟩
  · intro m s c found claim better
    obtain ⟨-, rfl⟩ := State.contactOf_some found
    refine ⟨State.attemptClaim_elsewhere found, State.attemptClaim_noroom found, fun listening room => ⟨fun k hk => ?_,
      fun none_better => ⟨?_, fun reread mute => ⟨fun taken => ?_, fun refused => ?_⟩⟩⟩⟩
    · exact State.attemptClaim_ceded found listening room ((s.betterClaimant_eq_some_iff c k).2 hk)
    · exact State.attemptClaim_held found listening room (State.betterClaimant_eq_none none_better)
    · rw [State.attemptClaim_offers found listening room (State.betterClaimant_eq_none none_better) reread mute]
      exact State.offerClaim_of_takesOffer taken
    · rw [State.attemptClaim_offers found listening room (State.betterClaimant_eq_none none_better) reread mute]
      exact State.offerClaim_of_refused refused
  · intro m s c left powered found running elsewhere
    have there := State.contactOf_passTime (s := s.begin) powered found left
    rw [exec_holdOffExpiry found running]
    obtain ⟨-, rfl⟩ := State.contactOf_some found
    exact congrArg Host.Outcome.next (State.attemptClaim_elsewhere
      (State.contactOf_setContact (c := (c.passTime left).nowEligible) there) elsewhere)
  · intro m s c left powered found running listening u c' claim better
    have there : u.contactOf m = some (c.passTime left) := State.contactOf_passTime (s := s.begin) powered found left
    have attempted := exec_holdOffExpiry found running
    obtain ⟨-, rfl⟩ := State.contactOf_some found
    have own : u.ownNumber = s.ownNumber := State.passTime_ownNumber s.begin left
    have mute : u.main.mute = s.main.mute := State.passTime_mute s.begin left
    have settle : u.main.cfg.settle = s.main.cfg.settle := congrArg Settings.settle (State.passTime_cfg s.begin left)
    have best (k : Claim) : u.betterClaimant c' = some k ↔ better k := by
      rw [State.betterClaimant_eq_some_iff, own]
      rfl
    have none_best (h : ∀ k, ¬ better k) : u.betterClaimant c' = none :=
      Option.eq_none_iff_forall_ne_some.2 fun k hk => h k ((best k).1 hk)
    have reached {t : State} (h : (u.setContact c').attemptClaim c'.meter = t) :
        exec (.holdOffExpiry c.meter) s = .next t := attempted.trans (congrArg Host.Outcome.next h)
    refine ⟨fun full => reached ?_, fun room => ⟨fun k hk => reached ?_, fun none_better =>
      ⟨fun holds => reached ?_, fun reread unmuted => ⟨fun taken => reached ?_, fun refused => reached ?_⟩⟩⟩⟩
    · exact State.attemptClaim_setContact_noroom (c := c') there listening full
    · exact State.attemptClaim_setContact_ceded (c := c') there listening room ((best k).2 hk)
    · exact State.attemptClaim_setContact_held (c := c') there listening room (none_best none_better) (mute.symm ▸ holds)
    · rw [← settle]
      exact State.attemptClaim_setContact_taken (c := c') there listening room (none_best none_better) reread
        (mute.trans unmuted) taken
    · exact State.attemptClaim_setContact_refused (c := c') there listening room (none_best none_better) reread
        (mute.trans unmuted) refused

/-! ## Settle expiry -/

theorem State.finishIdle_stays {s : State} {m : MeterId} {c : Contact} (found : s.contactOf m = some c)
    (h : c.idlePending = false) : s.finishIdle m = s := by
  simp [State.finishIdle, found, h]

theorem State.finishIdle_removes {s : State} {m : MeterId} {c : Contact} (found : s.contactOf m = some c)
    (h : c.idlePending = true) : s.finishIdle m = s.removeContact m := by
  simp [State.finishIdle, found, h]

/-- Settles O15: the contact after the settle, found again, tells whether a deferred idle expiry removes it. -/
theorem settleExpiryHoldsOrYields : Obligations.SettleExpiryHoldsOrYields := by
  unfold Obligations.SettleExpiryHoldsOrYields
  intro m s c left powered found running claiming u c' held yielded
  have there : u.contactOf m = some c' := State.contactOf_passTime (s := s.begin) powered found left
  have expired : exec (.settleExpiry m) s = .next (u.settleContact c') :=
    congrArg Host.Outcome.next
      ((State.contactExpiry_of_running (s := s.begin) found State.settleExpired running).trans (if_pos claiming))
  obtain ⟨-, rfl⟩ := State.contactOf_some found
  refine ⟨fun room => ?_, fun full => ?_⟩
  · have settled : u.settleContact c' = held.finishIdle c.meter := if_pos room
    have found' : held.contactOf c.meter = some (c'.asHeld u.main.mute u.ret.nextSeq) :=
      (State.contactOf_congr ((State.offer_contacts _ _).trans (u.enterHeld_contacts c')) _).trans
        (State.contactOf_setContact there)
    rw [expired, settled]
    refine ⟨fun h => ?_, fun h => ?_⟩
    · rw [State.finishIdle_stays found' h]
    · rw [State.finishIdle_removes found' h, State.removeContact_of_held found' rfl]
  · have settled : u.settleContact c' = yielded.finishIdle c.meter := if_neg (by simp [full])
    have found' : yielded.contactOf c.meter = some { c' with state := .listening, noroom := true, settle := none } :=
      (State.contactOf_congr (State.changeEntry_sameHolding _ _ _).contacts _).trans
        (State.contactOf_setContact ((State.contactOf_congr (State.offer_contacts _ _) _).trans there))
    rw [expired, settled]
    refine ⟨fun h => ?_, fun h => ?_⟩
    · rw [State.finishIdle_stays found' h]
    · rw [State.finishIdle_removes found' h, State.removeContact_of_listening found' rfl]

end Sys2Proof.Machine
end

section
/-! # The record of a HELD contact: its opening, and the alert test on it -/

namespace Sys2Proof.Machine

/-! ## Entries and records, found -/

theorem Retained.watched_eq (r : Retained) (m : MeterId) :
    r.watched m = (r.entries.find? fun e => e.meter == m).any fun e => e.watch := by
  unfold Retained.watched Retained.entryOf
  split <;> simp [*]

theorem Retained.entryDouble_eq (r : Retained) (m : MeterId) :
    r.entryDouble m = (r.entries.find? fun e => e.meter == m).any fun e => e.double := by
  unfold Retained.entryDouble Retained.entryOf
  split <;> simp [*]

/-- A change of entries that keeps the meters is found under them. -/
theorem find?_map_entry (f : RouteEntry → RouteEntry) (hf : ∀ e, (f e).meter = e.meter) (es : List RouteEntry)
    (m : MeterId) :
    ((es.map f).find? fun e => e.meter == m) = (es.find? fun e => e.meter == m).map f := by
  simp only [List.find?_map, Function.comp_def, hf]

/-- A change of an entry that keeps its meter and WATCH leaves the WATCHed meters (R60). -/
theorem Retained.updRunningEntry_watched (r : Retained) (m x : MeterId) (f : RouteEntry → RouteEntry)
    (hm : ∀ e, (f e).meter = e.meter) (hw : ∀ e, (f e).watch = e.watch) :
    (r.updRunningEntry m f).watched x = r.watched x := by
  unfold Retained.updRunningEntry
  split
  · rw [Retained.watched_eq, Retained.watched_eq, Retained.updEntry, updEntryList,
      find?_map_entry _ fun e => by split <;> simp [hm]]
    cases r.entries.find? fun e => e.meter == x with
    | none => rfl
    | some e =>
      simp only [Option.map_some, Option.any_some]
      split
      · exact hw e
      · rfl
  · rfl

theorem Retained.updRunningEntry_entries (r : Retained) (m : MeterId) (f : RouteEntry → RouteEntry) :
    (r.updRunningEntry m f).entries =
      if r.routeState = .running then r.entries.map fun e => if e.meter = m then f e else e else r.entries := by
  unfold Retained.updRunningEntry
  split <;> rfl

/-- In a log in order, a record is the only one of its SEQUENCE (R150). -/
theorem Retained.LogInOrder.unique {r : Retained} (h : r.LogInOrder) {x y : Record} (hx : x ∈ r.log) (hy : y ∈ r.log)
    (e : x.seq = y.seq) : x = y := by
  obtain ⟨rising, -⟩ := h
  exact List.inj_on_of_nodup_map (rising.imp fun k => Nat.ne_of_lt k) hx hy e

/-! ## The alert test -/

/-- What the alert test leaves of a READ record found at `q` that goes to PENDING exactly when `p` holds (R62). -/
theorem State.raise_ret {s : State} {q : Nat} {x : Record} {g : ReadFields} {p : Prop} [Decidable p]
    (found : s.ret.recordOf q = some x) (body : x.body = .read g)
    (goes : x.openState = .opened ∧ x.alert = .none ∧
      qualifies g.findings s.main.cfg.threshold (s.ret.watched g.meter) = true ↔ p) :
    (s.raise q).ret = { s.ret with log := s.ret.log.map fun w =>
      if w.seq = q then { w with alert := if p then .pending else w.alert } else w } := by
  simp only [State.raise, found, body, goes]
  split
  · rfl
  · have unchanged : (s.ret.log.map fun w => if w.seq = q then { w with alert := w.alert } else w) = s.ret.log :=
      (List.map_congr_left fun w _ => ite_self w).trans (List.map_id' _)
    rw [unchanged]

/-! ## Entering HELD -/

/-- The opening of the READ record of a contact (R36, R122, R125, R156). -/
theorem Retained.openRecord_eq (r : Retained) (c : Contact) :
    r.openRecord c = { r with
      nextSeq := r.nextSeq + 1
      log := r.log ++ [{ seq := r.nextSeq, route := r.recordRoute, openState := .opened, mark := .unsent,
                         alert := .none, body := .read (r.openFields c) }]
      entries :=
        if r.routeState = .running then r.entries.map fun e =>
          if e.meter = c.meter then
            { e with z := some c.reading, findings := e.findings ||| c.findings, state := .readHere }
          else e
        else r.entries } := by
  rw [Retained.openRecord, Retained.updRunningEntry_frame, Retained.updRunningEntry_entries]
  rfl

theorem Retained.openRecord_watched (r : Retained) (c : Contact) (m : MeterId) :
    (r.openRecord c).watched m = r.watched m :=
  Retained.updRunningEntry_watched _ _ _ _ (fun _ => rfl) fun _ => rfl

theorem State.enterHeld_backup (s : State) (c : Contact) : (s.enterHeld c).backup = s.backup := by
  simp [State.enterHeld]

/-- A search for the SEQUENCE of a record that stands alone at the newest end finds it. -/
theorem find?_append_newest {l : List Record} {x : Record} (h : ∀ y ∈ l, y.seq ≠ x.seq) :
    ((l ++ [x]).find? fun y => y.seq == x.seq) = some x := by
  rw [List.find?_append, List.find?_eq_none.2 (by simpa using h)]
  simp

/-- Settles O16: the alert test finds the record just appended, and no other has its SEQUENCE. -/
theorem enteringHeldOpensOneRecord : Obligations.EnteringHeldOpensOneRecord := by
  unfold Obligations.EnteringHeldOpensOneRecord
  intro s c order t route seconds double watched
  obtain ⟨main, -, powered, pins, pending⟩ := s.enterHeld_frame c
  refine ⟨?_, ?_, powered, s.enterHeld_backup c, pins, pending⟩
  · rw [main, s.enterHeld_contacts c]
    rfl
  · let c' := c.asHeld s.main.mute s.ret.nextSeq
    let opened : Record :=
      { seq := s.ret.nextSeq, route := s.ret.recordRoute, openState := .opened, mark := .unsent, alert := .none,
        body := .read (s.ret.openFields c') }
    let v := (s.write (Retained.openRecord c')).setContact c'
    have ret : v.ret = s.ret.openRecord c' := rfl
    have older : ∀ y ∈ s.ret.log, y.seq ≠ s.ret.nextSeq := fun y hy => by
      obtain ⟨-, below, -⟩ := order
      exact Nat.ne_of_lt (below y hy).2
    have found : v.ret.recordOf s.ret.nextSeq = some opened := by
      rw [ret, Retained.openRecord_eq]
      exact find?_append_newest (x := opened) older
    have watchedHere : v.ret.watched c.meter = watched := by
      rw [ret, Retained.openRecord_watched, Retained.watched_eq]
    have fields : s.ret.openFields c' =
        { meter := c.meter, utility := c.utility, dials := c.dials, reading := c.reading, measures := c.measures,
          flags := c.flags, resets := c.resets, quality := c.bestQuality, firstHeard := seconds c.firstArrival,
          lastHeard := seconds c.lastArrival, arrivals := c.arrivals, findings := c.findings,
          marks := { stray := c.stray, reread := c.reread, solo := c.solo || s.main.mute, double := double,
                     interrupted := false } } := by
      rw [Retained.openFields, Retained.entryDouble_eq]
      rfl
    have kept (a : Record → Record) :
        (s.ret.log.map fun w => if w.seq = s.ret.nextSeq then a w else w) = s.ret.log :=
      (List.map_congr_left fun w hw => if_neg (older w hw)).trans (List.map_id' _)
    have goes : opened.openState = .opened ∧ opened.alert = .none ∧
        qualifies c.findings s.main.cfg.threshold (v.ret.watched c.meter) = true ↔
          qualifies c.findings s.main.cfg.threshold watched = true := by
      simp [opened, watchedHere]
    have entered : t = v.raise s.ret.nextSeq := rfl
    rw [entered, State.raise_ret found rfl goes, ret, Retained.openRecord_eq, List.map_append, kept, fields]
    simp only [List.map_cons, List.map_nil, if_true]
    rfl

end Sys2Proof.Machine
end

section
/-! # ROUTE-CLOSE: the contacts cleared, their claims withdrawn, and a STATUS offered -/

namespace Sys2Proof.Machine

/-! ## An offered STATUS -/

/-- What an offer does to the main domain is read from the main domain alone (R81). -/
theorem State.offer_main (s : State) (p : Post) :
    (s.offer p).main =
      if (s.main.queue.any fun x => p.body.replaces x.body) || decide (s.main.queue.length < queueLimit) then
        { s.main with
          queue := s.main.queue.filter (fun x => !p.body.replaces x.body) ++ [p]
          current := s.main.current.bind (Current.reach p.body.replaces) }
      else s.main := by
  rcases s.offer_cases p with ⟨taken, e⟩ | ⟨refused, e⟩ <;> rw [e]
  · exact (if_pos taken).symm
  · exact (if_neg (Bool.eq_false_iff.1 refused)).symm

theorem State.offerStatus_main (s : State) :
    s.offerStatus.main =
      { (s.offer { mask := maskAll, body := .status }).main with
        statusTimer := some ((s.offer { mask := maskAll, body := .status }).main.cfg.statusInterval * 1000) } := rfl

theorem State.offerStatus_main_congr {s t : State} (h : s.main = t.main) : s.offerStatus.main = t.offerStatus.main := by
  simp only [State.offerStatus_main, State.offer_main, h]

/-- A STATUS replaces a STATUS and nothing else (R82). -/
theorem status_replaces (b : PostBody) : PostBody.status.replaces b = true ↔ b = .status := by
  cases b <;> simp [PostBody.replaces, PostBody.isStatus, PostBody.claimMeter]

/-- The other posts of the queue stay in it when a STATUS is offered. -/
theorem State.mem_offerStatus_queue_of_ne {s : State} {p : Post} (h : p ∈ s.main.queue) (hp : p.body ≠ .status) :
    p ∈ s.offerStatus.main.queue := by
  have stays : PostBody.status.replaces p.body = false :=
    Bool.eq_false_iff.2 fun k => hp ((status_replaces p.body).1 k)
  rw [State.offerStatus_main, State.offer_main]
  split
  · exact List.mem_append.2 (.inl (List.mem_filter.2 ⟨h, by simp [stays]⟩))
  · exact h

/-! ## The close of a route -/

theorem State.hearing_ret (s : State) (src : BitVec 4) (role : Role) : (s.hearing src role).ret = s.ret := by
  rw [State.hearing_eq]

theorem State.hearing_contacts (s : State) (src : BitVec 4) (role : Role) :
    (s.hearing src role).main.contacts = s.main.contacts := by
  rw [State.hearing_eq]

theorem State.hearing_queue (s : State) (src : BitVec 4) (role : Role) :
    (s.hearing src role).main.queue = s.main.queue := by
  rw [State.hearing_eq]

theorem State.ownsClaim_congr {s t : State} (h : s.main.contacts = t.main.contacts) (b : PostBody) :
    s.ownsClaim b = t.ownsClaim b := by
  simp only [State.ownsClaim, h]

/-- The main domain of a route that closes, before its STATUS is offered (R39, R137). -/
def State.routeCleared (u : State) : State :=
  { u.withdraw u.ownsClaim with main := { (u.withdraw u.ownsClaim).main with contacts := [], walk := 0 } }

/-- ROUTE-CLOSE in RUNNING on the main domain (R39, R83, R137). -/
theorem State.routeClosed_main {u : State} (h : u.ret.routeState = .running) :
    u.routeClosed.main = u.routeCleared.offerStatus.main := by
  rw [State.routeClosed, if_pos h]
  refine State.offerStatus_main_congr ?_
  rw [State.restartWalk_main, State.clearContacts_main]
  rfl

/-- ROUTE-CLOSE in RUNNING on the retained domain (R39, R137, R158). -/
theorem State.routeClosed_ret {u : State} (h : u.ret.routeState = .running) :
    u.routeClosed.ret = { u.ret with
      routeState := .closing, listed := 0, unlisted := 0
      log := u.ret.log.map fun x =>
        if ∃ c ∈ u.main.contacts, c.state = .held x.seq then { x with openState := .closed } else x } := by
  rw [State.routeClosed, if_pos h, State.offerStatus_ret, State.restartWalk_ret, State.clearContacts_ret]
  refine congrArg (fun l => ({ u.ret with routeState := .closing, listed := 0, unlisted := 0, log := l } : Retained))
    (List.map_congr_left fun x _ => ?_)
  rw [State.write_main]
  split <;> rfl

theorem State.routeClosed_frame {u : State} (h : u.ret.routeState = .running) :
    u.routeClosed.powered = u.powered ∧ u.routeClosed.backup = u.backup ∧ u.routeClosed.pins = u.pins ∧
      u.routeClosed.pending = u.pending := by
  obtain ⟨-, -, powered, pins, pending⟩ := (u.write Retained.startClosing).clearContacts_frame
  rw [State.routeClosed, if_pos h]
  simp [powered, pins, pending]

/-- Settles O36: the posts that stay and the claims that go are told apart in the queue before the STATUS. -/
theorem routeCloseClearsContactsAndStartsWalk : Obligations.RouteCloseClearsContactsAndStartsWalk := by
  unfold Obligations.RouteCloseClearsContactsAndStartsWalk
  intro src s takes u w closed
  have contacts : u.main.contacts = s.main.contacts := s.hearing_contacts src .console
  have ret : u.ret = s.ret := s.hearing_ret src .console
  have closes : exec (.routeClose src) s = .next u.routeClosed :=
    congrArg Host.Outcome.next (s.hearAddressed_of_takesFrom src .console State.routeClosed takes)
  refine ⟨fun b => ?_, fun other => ?_, fun running => ?_⟩
  · rw [State.ownsClaim_iff, contacts]
  · rw [closes, State.routeClosed, if_neg (ret ▸ other)]
  · have running' : u.ret.routeState = .running := ret ▸ running
    have main : u.routeClosed.main = closed.offerStatus.main := State.routeClosed_main running'
    obtain ⟨powered, backup, pins, pending⟩ := State.routeClosed_frame running'
    have heard : u = _ := s.hearing_eq src .console
    refine ⟨u.routeClosed, closes, ?_, main, fun c hc claiming q p hp body => ?_, fun p hp other unowned => ?_,
      ?_, ?_, pins, ?_⟩
    · rw [State.routeClosed_ret running', ret, contacts]
    · have kept : p ∈ w.main.queue := by
        rw [main] at hp
        rcases State.mem_offer_queue closed _ p hp with rfl | mem
        · exact PostBody.noConfusion body
        · exact mem
      obtain ⟨-, notOwned⟩ := (u.mem_withdraw_queue _ p).1 kept
      have owned := (u.ownsClaim_iff p.body).2 ⟨c, contacts ▸ hc, claiming, q, body⟩
      exact Bool.noConfusion (notOwned.symm.trans owned)
    · rw [main]
      refine State.mem_offerStatus_queue_of_ne ((u.mem_withdraw_queue _ p).2 ⟨?_, ?_⟩) other
      · rwa [State.hearing_queue]
      · rw [State.ownsClaim_congr contacts, unowned]
    · rw [powered, heard]
    · rw [backup, heard]
    · rw [pending, heard]

end Sys2Proof.Machine
end

section
/-! # A counted arrival at a contact that has had one before -/

namespace Sys2Proof.Machine

/-! ## The counter test and the evaluation -/

/-- A burst that does not repeat the newest ring entry is ACCEPTED, with SPLIT by the step of the counter (R16). -/
theorem counterTest_of_other {ring : List RingEntry} {b : Burst} {last : RingEntry} (hl : ring.getLast? = some last)
    (other : ¬ (counterStep b.counter last.counter = 0 ∧ b.reading = last.reading ∧ b.flags = last.flags)) :
    counterTest ring b =
      (.accepted, decide (counterStep b.counter last.counter = 0 ∨ 128 ≤ counterStep b.counter last.counter)) := by
  simp only [counterTest, hl]
  split
  · rename_i still
    have differs : ¬ (b.reading = last.reading ∧ b.flags = last.flags) := fun same => other ⟨still, same⟩
    simp [differs, still]
  · rename_i moved
    simp [moved]

theorem State.onRoute_eq (s : State) (b : Burst) {e : RouteEntry} (he : s.ret.entryOf b.meter = some e) :
    s.onRoute b = decide (s.ret.routeState = .running) := by
  unfold State.onRoute Retained.runningEntryOf
  split <;> simp [*]

section

variable {s : State} {c : Contact} {x : Arrival} {last : RingEntry} (hl : c.ring.getLast? = some last)
include hl

theorem State.evaluate_of_no_entry (he : s.ret.entryOf c.meter = none) :
    s.evaluate c x = evalStray x.burst.reading x.burst.dials 0 (some last.reading) := by
  simp [State.evaluate, hl, he]

/-- A full evaluation, or the stray treatment with the entry's jitter allowance (R41, R42, R56). -/
theorem State.evaluate_of_entry {e : RouteEntry} (he : s.ret.entryOf c.meter = some e)
    (on : x.onRoute = decide (s.ret.routeState = .running)) :
    s.evaluate c x =
      if s.ret.routeState = .running ∧ c.stray = false then
        evalFull
          { n := x.burst.reading, d := x.burst.dials, k := x.burst.resets, p := e.p, dr := e.dr, a := e.a, c := e.c,
            b := e.b, kr := e.kr, z := e.z, v := some last.reading, t := s.ret.routeClock, s := s.main.cfg.stallAge }
      else evalStray x.burst.reading x.burst.dials e.b (some last.reading) := by
  simp [State.evaluate, hl, he, on]

end

/-! ## The record that follows its contact -/

theorem Record.follow_marks (r : Retained) (c : Contact) (x : Record) :
    (x.follow r c).seq = x.seq ∧ (x.follow r c).openState = x.openState ∧ (x.follow r c).alert = x.alert := by
  obtain ⟨q, route, o, mark, alert, body⟩ := x
  cases body <;> exact ⟨rfl, rfl, rfl⟩

theorem Record.follow_with_body (r : Retained) (c : Contact) (x : Record) {b : RecordBody}
    (h : (x.follow r c).body = b) (a : AlertState) :
    { x.follow r c with alert := a } = { x with body := b, alert := a } := by
  obtain ⟨q, route, o, mark, alert, body⟩ := x
  subst h
  cases body <;> rfl

theorem Retained.updateRecord_eq (r : Retained) (c : Contact) (q : Nat) :
    r.updateRecord c q = { r with
      log := r.log.map fun w => if w.seq = q then w.follow r c else w
      entries :=
        if r.routeState = .running then r.entries.map fun e => if e.meter = c.meter then e.logged c else e
        else r.entries } := by
  rw [Retained.updateRecord, Retained.updRunningEntry_frame, Retained.updRunningEntry_entries]
  rfl

theorem Retained.updateRecord_watched (r : Retained) (c : Contact) (q : Nat) (m : MeterId) :
    (r.updateRecord c q).watched m = r.watched m :=
  Retained.updRunningEntry_watched _ _ _ _ (fun _ => rfl) fun _ => rfl

/-- A record is found updated after an update that keeps its SEQUENCE. -/
theorem find?_map_record {l : List Record} {q : Nat} {x : Record} {f : Record → Record} (hf : ∀ w, (f w).seq = w.seq)
    (found : (l.find? fun w => w.seq == q) = some x) :
    ((l.map fun w => if w.seq = q then f w else w).find? fun w => w.seq == q) = some (f x) := by
  have keeps : ∀ w : Record, (if w.seq = q then f w else w).seq = w.seq := by
    intro w
    split
    · exact hf w
    · rfl
  have hx : x.seq = q := by simpa using List.find?_some found
  simp only [List.find?_map, Function.comp_def, keeps, found, Option.map_some, hx, if_true]

/-- The update of the OPEN record of a HELD contact, and of its meter's entry, by a counted arrival, and the alert
test on it (R38, R62, R157). -/
theorem State.followRecord_ret {s : State} {c : Contact} {q : Nat} {x : Record} {g h : ReadFields} {p : Prop}
    [Decidable p] (order : s.ret.LogInOrder) (held : c.state = .held q) (found : s.ret.recordOf q = some x)
    (follows : (x.follow s.ret c).body = .read h) (meter : h.meter = g.meter)
    (goes : x.openState = .opened ∧ x.alert = .none ∧
      qualifies h.findings s.main.cfg.threshold (s.ret.watched g.meter) = true ↔ p) :
    (s.followRecord c).ret = { s.ret with
      log := s.ret.log.map fun w =>
        if w.seq = q then { x with body := .read h, alert := if p then .pending else x.alert } else w
      entries :=
        if s.ret.routeState = .running then
          s.ret.entries.map fun e => if e.meter = c.meter then e.logged c else e
        else s.ret.entries } := by
  let v := s.write (Retained.updateRecord c q)
  have hx : x ∈ s.ret.log ∧ x.seq = q := ⟨List.mem_of_find?_eq_some found, by simpa using List.find?_some found⟩
  obtain ⟨-, openState, alert⟩ := x.follow_marks s.ret c
  have found' : v.ret.recordOf q = some (x.follow s.ret c) := by
    rw [State.write_ret, Retained.updateRecord_eq]
    exact find?_map_record (fun w => (w.follow_marks s.ret c).1) found
  have goes' : (x.follow s.ret c).openState = .opened ∧ (x.follow s.ret c).alert = .none ∧
      qualifies h.findings v.main.cfg.threshold (v.ret.watched h.meter) = true ↔ p := by
    rw [openState, alert, meter, State.write_ret, Retained.updateRecord_watched]
    exact goes
  have follow : s.followRecord c = v.raise q := by
    simp only [State.followRecord, held]
    rfl
  rw [follow, State.raise_ret found' follows goes', State.write_ret, Retained.updateRecord_eq, List.map_map]
  simp only [Retained.mk.injEq, true_and, and_true]
  refine List.map_congr_left fun w hw => ?_
  simp only [Function.comp]
  split
  · rename_i here
    obtain rfl : w = x := order.unique hw hx.1 (here.trans hx.2.symm)
    have seq := (w.follow_marks s.ret c).1
    rw [if_pos (seq.trans here), alert]
    exact Record.follow_with_body s.ret c w follows _
  · rfl

/-! ## The take -/

/-- The hand-over of a burst that does not repeat the newest entry of its contact's ring (R16, R17). -/
theorem exec_take_of_other (p : Port) (s : State) (f : Frame) (rest : List Frame) (c : Contact) (last : RingEntry)
    (hs : (s.main.port p).slots = f :: rest) (early : s.PassesEarlyChecks f)
    (hc : s.contactOf (decodeBurst f.bytes).meter = some c) (hl : c.ring.getLast? = some last)
    (other : ¬ (counterStep (decodeBurst f.bytes).counter last.counter = 0 ∧
      (decodeBurst f.bytes).reading = last.reading ∧ (decodeBurst f.bytes).flags = last.flags)) :
    exec (.take p) s = .next ((s.counted p rest .accepted).countedArrival
      { time := f.time
        quality := burstQuality f.bytes (portSettings s.main.cfg p).levelOffset
        burst := decodeBurst f.bytes
        onRoute := s.onRoute (decodeBurst f.bytes)
        split := decide (counterStep (decodeBurst f.bytes).counter last.counter = 0 ∨
          128 ≤ counterStep (decodeBurst f.bytes).counter last.counter) }) := by
  have judged := s.judge_of_contact f c early hc
  rw [counterTest_of_other hl other] at judged
  rw [exec_take_of_slots p s f rest hs, judged]
  simp only [State.handOver, State.ensureContact, State.counted_contactOf, hc, State.counted_cfg]

theorem State.countedArrival_of_contact {s : State} {x : Arrival} {c c' : Contact}
    (found : s.contactOf x.burst.meter = some c) (recorded : s.recordArrival c x = c') :
    s.countedArrival x = ((s.setContact c').followRecord c').judgeEligibility c' := by
  simp only [State.countedArrival, found, recorded]

theorem State.followRecord_of_not_held {s : State} {c : Contact} (h : ∀ q, c.state ≠ .held q) :
    s.followRecord c = s := by
  unfold State.followRecord
  split
  · exact absurd ‹_› (h _)
  · rfl

theorem State.followRecord_frame (s : State) (c : Contact) :
    (s.followRecord c).powered = s.powered ∧ (s.followRecord c).backup = s.backup ∧
      (s.followRecord c).pins = s.pins ∧ (s.followRecord c).pending = s.pending := by
  unfold State.followRecord
  split <;> simp

theorem State.judgeEligibility_eq (s : State) (c : Contact) :
    s.judgeEligibility c =
      if c.eligible = true then s.attemptClaim c.meter
      else if 2 ≤ c.arrivals ∨ s.main.cfg.holdOff = 0 then (s.setContact c.nowEligible).attemptClaim c.meter
      else s := by
  simp only [State.judgeEligibility, State.becomesEligible, Bool.or_eq_true, decide_eq_true_eq]

/-- A HELD contact becomes eligible as any other, and makes no claim attempt (R34, R35). -/
theorem State.judgeEligibility_of_held {s : State} {c : Contact} {q : Nat} (found : s.contactOf c.meter = some c)
    (held : c.state = .held q) :
    s.judgeEligibility c =
      if c.eligible = false ∧ (2 ≤ c.arrivals ∨ s.main.cfg.holdOff = 0) then s.setContact c.nowEligible else s := by
  have stays (u : State) (c₁ : Contact) (h : u.contactOf c.meter = some c₁) (hs : c₁.state = c.state) :
      u.attemptClaim c.meter = u := State.attemptClaim_elsewhere h (by simp [hs, held])
  rw [State.judgeEligibility_eq, stays s c found rfl,
    stays _ c.nowEligible (State.contactOf_setContact (c := c.nowEligible) found) rfl]
  cases c.eligible <;> simp

/-- The chatter count is one more than the ring entries within the window (R28). -/
theorem chatterCount_eq (ring : List RingEntry) (t w : Nat) :
    chatterCount ring t w = (ring.filter fun e => decide (t < e.time + w * 1000)).length + 1 := by
  rw [chatterCount, List.countP_eq_length_filter, Nat.add_comm]

/-- Settles O8: the take leaves the contact brought up to date; a HELD one's record follows it and no claim is tried,
and another is judged for its eligibility. -/
theorem countedArrivalUpdatesOpenRecord : Obligations.CountedArrivalUpdatesOpenRecord := by
  unfold Obligations.CountedArrivalUpdatesOpenRecord
  intro p s f rest c last b d hs early hc hl other full r within gained entry c' u
  let arrival : Arrival :=
    { time := f.time, quality := burstQuality f.bytes (portSettings s.main.cfg p).levelOffset, burst := b,
      onRoute := s.onRoute b, split := decide (d = 0 ∨ 128 ≤ d) }
  have counted : u = s.counted p rest .accepted := rfl
  have ret : u.ret = s.ret := rfl
  have cfg : u.main.cfg = s.main.cfg := State.counted_cfg s p rest .accepted
  have found : u.contactOf b.meter = some c := (State.counted_contactOf s p rest .accepted _).trans hc
  have taken : exec (.take p) s = .next (u.countedArrival arrival) :=
    exec_take_of_other p s f rest c last hs early hc hl other
  obtain ⟨-, meter⟩ := State.contactOf_some hc
  have evaluated : u.evaluate c arrival = r := by
    cases he : s.ret.entryOf b.meter with
    | none =>
      rw [State.evaluate_of_no_entry hl (by rw [ret, meter, he])]
      simp only [r, he]
      rfl
    | some e =>
      rw [State.evaluate_of_entry hl (e := e) (by rw [ret, meter, he]) (s.onRoute_eq b he), cfg]
      simp only [r, he]
      rfl
  have recorded : u.recordArrival c arrival = c' := by
    rw [State.recordArrival, State.arrivalFindings, evaluated, cfg, chatterCount_eq, pushRing, List.length_append]
    rfl
  have found' : u.contactOf c'.meter = some c := (show c'.meter = b.meter from meter) ▸ found
  have judged : exec (.take p) s = .next (((u.setContact c').followRecord c').judgeEligibility c') := by
    rw [taken, State.countedArrival_of_contact (x := arrival) found recorded]
  refine ⟨fun notHeld => ?_, ?_⟩
  · have free : ∀ q, c'.state ≠ .held q := notHeld
    rw [judged, State.followRecord_of_not_held free, State.judgeEligibility_eq, State.setContact_main, cfg, ← meter]
    refine ⟨fun eligible => ?_, fun ineligible => ⟨fun reached => ?_, fun few longer => ?_⟩⟩
    · rw [if_pos eligible]
    · rw [if_neg (by simpa using ineligible), if_pos reached,
        State.setContact_setContact (c := c') (c' := c'.nowEligible) u rfl]
      rfl
    · rw [if_neg (by simpa using ineligible), if_neg (by omega)]
  · intro q x g order held hx body seconds h watched y c''
    let v := (u.setContact c').followRecord c'
    have main : v.main = (u.setContact c').main := State.followRecord_main _ _
    have there : v.contactOf c'.meter = some c' :=
      (State.contactOf_congr (congrArg Main.contacts main) _).trans (State.contactOf_setContact found')
    obtain ⟨powered, backup, pins, pending⟩ := (u.setContact c').followRecord_frame c'
    have goes : x.openState = .opened ∧ x.alert = .none ∧
        qualifies h.findings (u.setContact c').main.cfg.threshold ((u.setContact c').ret.watched g.meter) = true ↔
          x.openState = .opened ∧ x.alert = .none ∧ qualifies h.findings s.main.cfg.threshold watched = true := by
      rw [State.setContact_main, cfg, Retained.watched_eq]
      rfl
    have follows : (x.follow s.ret c').body = .read h := by
      rw [Record.follow, body]
      rfl
    have log : v.ret = _ := State.followRecord_ret (s := u.setContact c') order held hx follows rfl goes
    rw [show c'.meter = b.meter from meter] at log
    have cfg' : v.main.cfg = s.main.cfg := by rw [main, State.setContact_main, cfg]
    rw [judged, State.judgeEligibility_of_held there held, show c'.eligible = c.eligible from rfl, cfg']
    by_cases ready : c.eligible = false ∧ (2 ≤ c'.arrivals ∨ s.main.cfg.holdOff = 0)
    · have eligible : c'' = c'.nowEligible := if_pos ready
      refine ⟨v.setContact c'.nowEligible, by rw [if_pos ready], ?_, log, powered, backup, pins, pending⟩
      rw [eligible, State.setContact_main, main, ← State.setContact_setContact (c := c') (c' := c'.nowEligible) u rfl]
      rfl
    · have waits : c'' = c' := if_neg ready
      exact ⟨v, by rw [if_neg ready], by rw [main, waits], log, powered, backup, pins, pending⟩

end Sys2Proof.Machine
end

section
/-! # The reading evaluator: findings as members, the backward window, and the ranges of its results (chapter 3) -/

namespace Sys2Proof.Machine

/-! ## Members of a set of findings -/

@[simp] theorem hasFinding_or (fs gs : FindingSet) (f : Finding) :
    hasFinding (fs ||| gs) f = (hasFinding fs f || hasFinding gs f) :=
  BitVec.getLsbD_or

@[simp] theorem hasFinding_zero (f : Finding) : hasFinding 0#12 f = false :=
  BitVec.getLsbD_zero

/-- The twelve findings stand at twelve positions (section 11.3). -/
@[simp] theorem hasFinding_only (g f : Finding) : hasFinding g.only f = decide (f = g) := by
  cases g <;> cases f <;> rfl

@[simp] theorem hasFinding_findingIf (b : Bool) (g f : Finding) :
    hasFinding (findingIf b g) f = (b && decide (f = g)) := by
  cases b <;> simp [findingIf]

/-! ## The difference and its direction -/

theorem readingDelta_lt (n ref d : Nat) : readingDelta n ref d < 10 ^ d := by
  have positive : (0 : Int) < ((10 ^ d : Nat) : Int) := by positivity
  have below := Int.emod_lt_of_pos ((n : Int) - ref) positive
  unfold readingDelta
  omega

theorem isBackward_iff (delta d : Nat) : isBackward delta d = true ↔ 10 ^ d - 10 ^ (d - 1) ≤ delta :=
  decide_eq_true_iff

theorem backwardBeyond_iff (n ref d b : Nat) :
    backwardBeyond n ref d b = true ↔
      10 ^ d - 10 ^ (d - 1) ≤ readingDelta n ref d ∧ b < 10 ^ d - readingDelta n ref d := by
  rw [backwardBeyond, Bool.and_eq_true, isBackward_iff, decide_eq_true_eq]

/-- The backward window is a tenth of the dial, and so never all of it (R44). -/
theorem ten_mul_backwardWindow {d : Nat} (h : 4 ≤ d) : 10 * 10 ^ (d - 1) = 10 ^ d :=
  mul_pow_sub_one (by omega) 10

theorem backwardWindow_pos (d : Nat) : 0 < 10 ^ (d - 1) :=
  Nat.pow_pos (by decide)

section

variable {delta d b : Nat}

theorem directionOf_forward (moved : 1 ≤ delta) (outside : delta < 10 ^ d - 10 ^ (d - 1)) :
    directionOf delta d b = .forward := by
  have ahead : ¬ isBackward delta d = true := by
    rw [isBackward_iff]
    omega
  rw [directionOf, if_neg (by omega), if_neg ahead]

theorem directionOf_inWindow (h : 4 ≤ d) (window : 10 ^ d - 10 ^ (d - 1) ≤ delta) :
    directionOf delta d b = if 10 ^ d - delta ≤ b then .jitter else .backward := by
  have tenth := ten_mul_backwardWindow h
  have positive := backwardWindow_pos d
  rw [directionOf, if_neg (by omega), if_pos ((isBackward_iff delta d).2 window)]

theorem delta_of_directionOf_forward (h : directionOf delta d b = .forward) : delta < 10 ^ d - 10 ^ (d - 1) := by
  unfold directionOf at h
  split at h
  · cases h
  · split at h
    · split at h <;> cases h
    · rename_i ahead
      rw [isBackward_iff] at ahead
      omega

theorem delta_of_directionOf_backward (h : directionOf delta d b = .backward) :
    10 ^ d - 10 ^ (d - 1) ≤ delta := by
  unfold directionOf at h
  split at h
  · cases h
  · split at h
    · rename_i window
      exact (isBackward_iff delta d).1 window
    · cases h

end

/-! ## The checks of an evaluation -/

/-- Equal dial counts: the measures and the direction are formed (R44 to R47). -/
theorem evalBilled_of_equal_dials {i : EvalInput} (h : i.d = i.dr) :
    evalBilled i =
      { findings :=
          findingIf (directionOf (readingDelta i.n i.p i.d) i.d i.b == .backward) .rollback |||
          findingIf (exceeds i.c (rateOf (readingDelta i.n i.p i.d) (elapsedMinutes i.a i.t)
            (directionOf (readingDelta i.n i.p i.d) i.d i.b))) .excess |||
          findingIf (stalls i.s (elapsedMinutes i.a i.t)
            (directionOf (readingDelta i.n i.p i.d) i.d i.b)) .stall
        direction := some (directionOf (readingDelta i.n i.p i.d) i.d i.b)
        measures := some
          { advance := advanceOf (readingDelta i.n i.p i.d) i.d
              (directionOf (readingDelta i.n i.p i.d) i.d i.b)
            rate := rateOf (readingDelta i.n i.p i.d) (elapsedMinutes i.a i.t)
              (directionOf (readingDelta i.n i.p i.d) i.d i.b) } } :=
  if_neg (not_not_intro h)

/-- Other dial counts: DIALS alone, and no measures (R43, R54). -/
theorem evalBilled_of_other_dials {i : EvalInput} (h : i.d ≠ i.dr) :
    evalBilled i = { findings := Finding.only .dials, direction := none, measures := none } :=
  if_pos h

theorem hasFinding_evalRestart (i : EvalInput) (f : Finding) :
    hasFinding (evalRestart i) f = true ↔ f = .restart ∧ ∃ kr, i.kr = some kr ∧ i.k ≠ kr := by
  unfold evalRestart
  split <;> rename_i h <;> simp [h, and_comm]

theorem hasFinding_evalAgainst (n d b : Nat) (before : Option Nat) (f : Finding) :
    hasFinding (evalAgainst n d b before) f = true ↔
      f = .split ∧ ∃ ref, before = some ref ∧ backwardBeyond n ref d b = true := by
  cases before <;> simp [evalAgainst, and_comm]

/-- The findings of a full evaluation are those of its steps (R41). -/
theorem hasFinding_evalFull (i : EvalInput) (f : Finding) :
    hasFinding (evalFull i).findings f = true ↔
      hasFinding (evalBilled i).findings f = true ∨ hasFinding (evalRestart i) f = true ∨
        hasFinding (evalAgainst i.n i.d i.b i.z) f = true ∨ hasFinding (evalAgainst i.n i.d i.b i.v) f = true := by
  simp only [evalFull, hasFinding_or, Bool.or_eq_true, or_assoc]

/-- ROLLBACK, EXCESS, STALL and DIALS come of steps 1 to 5 alone. -/
theorem hasFinding_evalFull_billed (i : EvalInput) {f : Finding} (restart : f ≠ .restart) (split : f ≠ .split) :
    hasFinding (evalFull i).findings f = hasFinding (evalBilled i).findings f := by
  rw [Bool.eq_iff_iff, hasFinding_evalFull]
  simp [hasFinding_evalRestart, hasFinding_evalAgainst, restart, split]

/-- Steps 1 to 5 add neither RESTART nor SPLIT. -/
theorem hasFinding_evalBilled_eq_false (i : EvalInput) {f : Finding} (h : f = .restart ∨ f = .split) :
    hasFinding (evalBilled i).findings f = false := by
  by_cases dials : i.d = i.dr
  · rw [evalBilled_of_equal_dials dials]
    rcases h with rfl | rfl <;> simp
  · rw [evalBilled_of_other_dials dials]
    rcases h with rfl | rfl <;> simp

theorem exceeds_iff (c rate : Nat) : exceeds c rate = true ↔ c ≠ 0 ∧ c < rate := by
  simp [exceeds]

theorem stalls_iff (s e : Nat) (dir : Direction) :
    stalls s e dir = true ↔ s ≠ 0 ∧ (dir = .zero ∨ dir = .jitter) ∧ s ≤ e := by
  simp [stalls, and_assoc]

theorem rateOf_eq (delta e : Nat) (dir : Direction) :
    rateOf delta e dir = if dir = .forward then min (delta * 60 / max e 1) max16 else 0 := by
  cases dir <;> rfl

/-! ## The statements about an evaluation -/

/-- Settles O10: the direction by where Δ lies, and each clause reads off its advance. -/
theorem advanceAndDirectionByBackwardWindow : Obligations.AdvanceAndDirectionByBackwardWindow := by
  unfold Obligations.AdvanceAndDirectionByBackwardWindow
  intro i dials four delta m r
  let dir := directionOf delta i.d i.b
  have below : delta < 10 ^ i.d := readingDelta_lt i.n i.p i.d
  have direction : r.direction = some dir := congrArg EvalResult.direction (evalBilled_of_equal_dials dials)
  have advance : r.measures.map Measures.advance = some (advanceOf delta i.d dir) :=
    congrArg (fun x => x.measures.map Measures.advance) (evalBilled_of_equal_dials dials)
  have rollback : hasFinding r.findings .rollback = (dir == .backward) := by
    rw [hasFinding_evalFull_billed i (by simp) (by simp), evalBilled_of_equal_dials dials]
    simp [dir, delta, readingDelta]
  have result {x : Direction} (h : dir = x) :
      r.direction = some x ∧ r.measures.map Measures.advance = some (advanceOf delta i.d x) := by
    rw [direction, advance, h]
    exact ⟨rfl, rfl⟩
  refine ⟨below, fun zero => ?_, fun moved outside => ?_, fun window near => ?_, fun window far => ?_, ?_⟩
  · exact result (if_pos zero)
  · exact result (directionOf_forward moved outside)
  · exact result ((directionOf_inWindow four window).trans (if_pos near))
  · exact result ((directionOf_inWindow four window).trans (if_neg (Nat.not_le.2 far)))
  · rw [rollback, direction, beq_iff_eq, Option.some.injEq]

/-- Settles O11. -/
theorem rateExcessAndStall : Obligations.RateExcessAndStall := by
  unfold Obligations.RateExcessAndStall
  intro i dials e r delta rate
  let dir := directionOf delta i.d i.b
  have direction : r.direction = some dir := congrArg EvalResult.direction (evalBilled_of_equal_dials dials)
  have rated : rate = rateOf delta e dir := by
    rw [rateOf_eq]
    simp only [rate, direction, Option.some.injEq]
    rfl
  have stored : r.measures.map Measures.rate = some (rateOf delta e dir) :=
    congrArg (fun x => x.measures.map Measures.rate) (evalBilled_of_equal_dials dials)
  have excess : hasFinding r.findings .excess = exceeds i.c (rateOf delta e dir) := by
    rw [hasFinding_evalFull_billed i (by simp) (by simp), evalBilled_of_equal_dials dials]
    simp
    rfl
  have stall : hasFinding r.findings .stall = stalls i.s e dir := by
    rw [hasFinding_evalFull_billed i (by simp) (by simp), evalBilled_of_equal_dials dials]
    simp
    rfl
  refine ⟨by rw [stored, rated], ?_, ?_⟩
  · rw [excess, exceeds_iff, rated]
  · rw [stall, stalls_iff, direction, Option.some.injEq, Option.some.injEq]

/-- For other dial counts steps 1 to 5 make DIALS and nothing else (R43). -/
theorem hasFinding_evalFull_of_other_dials {i : EvalInput} (h : i.d ≠ i.dr) {f : Finding} (restart : f ≠ .restart)
    (split : f ≠ .split) : hasFinding (evalFull i).findings f = decide (f = .dials) := by
  rw [hasFinding_evalFull_billed i restart split, evalBilled_of_other_dials h, hasFinding_only]

theorem hasFinding_evalFull_dials (i : EvalInput) :
    hasFinding (evalFull i).findings .dials = true ↔ i.d ≠ i.dr := by
  by_cases h : i.d = i.dr
  · rw [hasFinding_evalFull_billed i (by simp) (by simp), evalBilled_of_equal_dials h]
    simp [h]
  · simp [hasFinding_evalFull_of_other_dials h, h]

theorem hasFinding_evalFull_restart (i : EvalInput) :
    hasFinding (evalFull i).findings .restart = true ↔ ∃ kr, i.kr = some kr ∧ i.k ≠ kr := by
  rw [hasFinding_evalFull, hasFinding_evalBilled_eq_false i (.inl rfl), hasFinding_evalRestart]
  simp [hasFinding_evalAgainst]

theorem hasFinding_evalFull_split (i : EvalInput) :
    hasFinding (evalFull i).findings .split = true ↔
      (∃ z, i.z = some z ∧ backwardBeyond i.n z i.d i.b = true) ∨
        ∃ v, i.v = some v ∧ backwardBeyond i.n v i.d i.b = true := by
  rw [hasFinding_evalFull, hasFinding_evalBilled_eq_false i (.inr rfl), hasFinding_evalRestart]
  simp [hasFinding_evalAgainst]

/-- Settles O12: each of the checks adds its own finding, and no other adds it. -/
theorem dialRestartAndSplitChecks : Obligations.DialRestartAndSplitChecks := by
  unfold Obligations.DialRestartAndSplitChecks
  refine ⟨?_, ?_, ?_⟩
  · intro i r
    refine ⟨hasFinding_evalFull_dials i, fun dials => ⟨?_, ?_, ?_, ?_, ?_⟩, hasFinding_evalFull_restart i⟩
    · exact congrArg EvalResult.measures (evalBilled_of_other_dials dials)
    · exact congrArg EvalResult.direction (evalBilled_of_other_dials dials)
    all_goals exact hasFinding_evalFull_of_other_dials dials (by simp) (by simp)
  · intro i behind
    have beyond (ref : Nat) : backwardBeyond i.n ref i.d i.b = true ↔ behind ref := backwardBeyond_iff _ _ _ _
    rw [hasFinding_evalFull_split]
    simp only [beyond]
  · intro n d b v r
    refine ⟨rfl, rfl, rfl, (hasFinding_evalAgainst n d b v .split).trans ?_⟩
    simp only [backwardBeyond_iff, true_and]
    rfl

end Sys2Proof.Machine
end

section
/-! # The ranges of an evaluation's results (R55) -/

namespace Sys2Proof.Machine

/-- An advance runs from a tenth of the dial back to nine tenths forward (R45, R55). -/
theorem advanceOf_bounds {delta d : Nat} (b : Nat) (h : 4 ≤ d) (below : delta < 10 ^ d) :
    -(10 ^ (d - 1) : Int) ≤ advanceOf delta d (directionOf delta d b) ∧
      advanceOf delta d (directionOf delta d b) < 9 * 10 ^ (d - 1) := by
  have tenth := ten_mul_backwardWindow h
  have positive := backwardWindow_pos d
  have window : (10 ^ (d - 1) : Int) = ((10 ^ (d - 1) : Nat) : Int) := by push_cast; rfl
  rw [window]
  cases direction : directionOf delta d b with
  | zero | jitter =>
    simp only [advanceOf]
    omega
  | forward =>
    have ahead := delta_of_directionOf_forward direction
    simp only [advanceOf]
    omega
  | backward =>
    have behind := delta_of_directionOf_backward direction
    simp only [advanceOf]
    omega

theorem rateOf_le (delta e : Nat) (dir : Direction) : rateOf delta e dir ≤ max16 := by
  rw [rateOf_eq]
  split
  · exact Nat.min_le_right _ _
  · exact Nat.zero_le _

theorem MeasuredInRange.of_none {d n : Nat} (low : 4 ≤ d) (high : d ≤ 8) (reading : n < 10 ^ d) :
    MeasuredInRange d n none :=
  ⟨low, high, reading, fun _ hm => absurd hm (Option.not_mem_none _)⟩

theorem evalFull_measures (i : EvalInput) : (evalFull i).measures = (evalBilled i).measures := rfl

theorem evalFull_inRange {i : EvalInput} (low : 4 ≤ i.d) (high : i.d ≤ 8) (reading : i.n < 10 ^ i.d) :
    MeasuredInRange i.d i.n (evalFull i).measures := by
  by_cases dials : i.d = i.dr
  · refine ⟨low, high, reading, fun m hm => ?_⟩
    rw [evalFull_measures, evalBilled_of_equal_dials dials] at hm
    cases hm
    obtain ⟨least, most⟩ := advanceOf_bounds i.b low (readingDelta_lt i.n i.p i.d)
    exact ⟨least, most, rateOf_le _ _ _⟩
  · rw [evalFull_measures, evalBilled_of_other_dials dials]
    exact .of_none low high reading

/-- The evaluation of a well-formed burst is in range for the burst's own dial count. -/
theorem State.evaluate_inRange (s : State) (c : Contact) {x : Arrival} (valid : x.burst.WellFormed) :
    MeasuredInRange x.burst.dials x.burst.reading (s.evaluate c x).measures := by
  obtain ⟨-, low, high, reading, -⟩ := valid
  unfold State.evaluate
  split
  · split
    · exact evalFull_inRange (i := { n := x.burst.reading, d := x.burst.dials, .. }) low high reading
    · exact .of_none low high reading
  · exact .of_none low high reading

/-- An ACCEPTED burst is well formed (R11). -/
theorem State.wellFormed_of_accepted {s : State} {f : Frame} (h : (s.judge f).disposition = .accepted) :
    (decodeBurst f.bytes).WellFormed := by
  by_contra malformed
  cases whole : f.isExact
  · rw [State.judge_malformedLength whole] at h
    cases h
  cases check : burstCheckOk f.bytes
  · rw [State.judge_checkFailed whole check] at h
    cases h
  · rw [State.judge_malformed whole check malformed] at h
    cases h

end Sys2Proof.Machine
end

section
/-! # One dispatch for the promises about the capture log

A promise about the log is one about the retained domain as it stands and as it stood before each write of a step, and
about the contacts the READ records are taken from. Each write of the model is named once, as a field of
`LogPromise`. -/

namespace Sys2Proof.Machine

/-! ## What a promise about the log has to say -/

/-- What the evaluator has formed of a READ record: its dial count, its reading and its measures. -/
def Record.measured (x : Record) : Option (Nat × Nat × Option Measures) :=
  x.readFields.map fun f => (f.dials, f.reading, f.measures)

/-- `f` moves neither the SEQUENCE of a record nor what has been measured of it. -/
def KeepsMeasured (f : Record → Record) : Prop := ∀ x, (f x).seq = x.seq ∧ (f x).measured = x.measured

/-- Every contact has `C`, and the retained domain has `P`, whichever of its writes a loss of supply takes back
(R159). -/
structure State.Keeps (C : Contact → Prop) (P : Retained → Prop) (s : State) : Prop where
  contacts : ∀ c ∈ s.main.contacts, C c
  retained : s.EveryRetained P

/-- `P` is a promise about the log, its counter and its reservation that every write of the model keeps, a record being
taken from a contact that has `C`; and `C` holds of the contacts that a well-formed burst leaves. A promise that asks
nothing of the contacts has `C` hold of all. -/
structure LogPromise (C : Contact → Prop) (P : Retained → Prop) : Prop where
  /-- `C` reads of a contact what was measured of it. -/
  same : ∀ {c c' : Contact}, C c →
    c'.dials = c.dials → c'.reading = c.reading → c'.measures = c.measures → C c'
  fresh : ∀ (s : State) (b : Burst) (t : Nat) (on : Bool), b.WellFormed → C (s.newContact b t on)
  recorded : ∀ (s : State) (c : Contact) (x : Arrival), x.burst.WellFormed → C (s.recordArrival c x)
  /-- `P` reads nothing of the route table, the tallies and the clocks, and of the route state whether a route is in
  progress (R153). -/
  aside : ∀ {r r' : Retained}, P r → r'.log = r.log → r'.nextSeq = r.nextSeq → r'.reserved = r.reserved →
    r'.routeState.inProgress = r.routeState.inProgress → P r'
  /-- A record is closed, marked, put in an alert state, or heard of in a duplicate (R39, R61, R166, R38). -/
  changed : ∀ {r : Retained} (q : Nat) {f : Record → Record}, KeepsMeasured f → P r → P (r.updRecord q f)
  /-- A record follows its contact at a counted arrival (R38, R157). -/
  followed : ∀ {r : Retained} {c : Contact} (q : Nat), C c → P r → P (r.updRecord q (Record.follow r c))
  /-- A READ record is opened, where there is room (R36, R154, R156). -/
  opened : ∀ {r : Retained} {c : Contact}, C c → r.room = true → P r →
    P (r.append r.recordRoute .opened (.read (r.openFields c)))
  /-- A MISSED record is appended, where there is room (R140, R154). -/
  missed : ∀ {r : Retained} (f : MissedFields), r.room = true → P r →
    P (r.append r.routeNumber .closed (.missed f))
  begun : ∀ {r : Retained} (route count : Nat), r.acceptsBegin = true → P r → P (r.beginRoute route count)
  ended : ∀ {r : Retained}, r.routeState = .closing → P r → P r.endRoute
  committed : ∀ {r : Retained} (batch : List Nat) (v : Nat), P r → P (r.commit batch v)
  cleared : ∀ valid, P (clearedRetained valid)

/-! ## Changes that keep what was measured -/

theorem keepsMeasured_close : KeepsMeasured Record.close := fun _ => ⟨rfl, rfl⟩

theorem keepsMeasured_withMark (m : DrainMark) : KeepsMeasured (Record.withMark m) := fun _ => ⟨rfl, rfl⟩

theorem keepsMeasured_withAlert (a : AlertState) : KeepsMeasured (Record.withAlert a) := fun _ => ⟨rfl, rfl⟩

theorem keepsMeasured_followDuplicate (r : Retained) (c : Contact) : KeepsMeasured (Record.followDuplicate r c) := by
  rintro ⟨q, route, o, mark, alert, body⟩
  cases body <;> exact ⟨rfl, rfl⟩

theorem keepsMeasured_markDouble : KeepsMeasured Record.markDouble := by
  rintro ⟨q, route, o, mark, alert, body⟩
  cases body <;> exact ⟨rfl, rfl⟩

theorem keepsMeasured_restore : KeepsMeasured Record.restore := by
  rintro ⟨q, route, o, mark, alert, body⟩
  cases o <;> cases body <;> exact ⟨rfl, rfl⟩

/-! ## The updates of the state -/

namespace State.Keeps

variable {C : Contact → Prop} {P : Retained → Prop} {s t : State}

/-- A change of neither the contacts nor the retained domain. -/
theorem aside (h : s.Keeps C P) (contacts : t.main.contacts = s.main.contacts) (ret : t.ret = s.ret)
    (journal : t.journal = s.journal) : t.Keeps C P := by
  refine ⟨contacts ▸ h.contacts, ?_⟩
  unfold State.EveryRetained
  rw [ret, journal]
  exact h.retained

theorem begin (h : s.Keeps C P) : s.begin.Keeps C P :=
  ⟨h.contacts, h.retained.1, fun _ hr => absurd hr List.not_mem_nil⟩

theorem write {f : Retained → Retained} (h : s.Keeps C P) (hf : P s.ret → P (f s.ret)) : (s.write f).Keeps C P := by
  obtain ⟨contacts, now, before⟩ := h
  exact ⟨contacts, hf now, List.forall_mem_cons.2 ⟨now, before⟩⟩

/-- Operations made one after another. -/
theorem foldl {α : Type} {op : State → α → State} (h : s.Keeps C P)
    (one : ∀ u a, u.Keeps C P → (op u a).Keeps C P) (l : List α) : (l.foldl op s).Keeps C P := by
  induction l generalizing s with
  | nil => exact h
  | cons a l ih => exact ih (one s a h)

theorem setContact {c : Contact} (h : s.Keeps C P) (hc : C c) : (s.setContact c).Keeps C P := by
  refine ⟨fun x hx => ?_, h.retained⟩
  rcases State.mem_setContact hx with rfl | ⟨mem, -⟩
  · exact hc
  · exact h.contacts x mem

theorem dropContact (m : MeterId) (h : s.Keeps C P) : (s.dropContact m).Keeps C P :=
  ⟨fun x hx => h.contacts x (List.mem_filter.1 hx).1, h.retained⟩

theorem addContact {c : Contact} (h : s.Keeps C P) (hc : C c) : (s.addContact c).Keeps C P := by
  refine ⟨fun x hx => ?_, h.retained⟩
  rcases (mem_insertBy _ _ _ _).1 hx with rfl | mem
  · exact hc
  · exact h.contacts x mem

/-- A state without contacts. -/
theorem of_no_contacts (h : s.EveryRetained P) (empty : s.main.contacts = []) : s.Keeps C P :=
  ⟨fun _ hc => absurd (empty ▸ hc) List.not_mem_nil, h⟩

theorem of_contactOf {m : MeterId} {c : Contact} (h : s.Keeps C P) (hc : s.contactOf m = some c) : C c :=
  h.contacts c (State.contactOf_some hc).1

/-! ## The operations that write nothing -/

theorem offer (p : Post) (h : s.Keeps C P) : (s.offer p).Keeps C P :=
  h.aside (s.offer_contacts p) (s.offer_ret p) (s.offer_journal p)

theorem offerStatus (h : s.Keeps C P) : s.offerStatus.Keeps C P :=
  h.aside s.offerStatus_sameHolding.contacts s.offerStatus_ret s.offerStatus_journal

theorem restartParkReturn (h : s.Keeps C P) : s.restartParkReturn.Keeps C P := by
  rw [State.restartParkReturn_eq]
  exact h.aside rfl rfl rfl

theorem lineSilent (quiet : Nat) (h : s.Keeps C P) : (s.lineSilent quiet).Keeps C P := by
  rw [State.lineSilent_eq]
  split
  · exact h.aside rfl rfl rfl
  · exact h

theorem lineActive (quiet : Nat) (h : s.Keeps C P) : (s.lineActive quiet).Keeps C P := by
  have silent := h.lineSilent quiet
  simp only [State.lineActive]
  split <;> exact silent.aside rfl rfl rfl

theorem postPasses (h : s.Keeps C P) : s.postPasses.Keeps C P := by
  cases attempt : s.inAttempt
  · rw [State.postPasses_eq s attempt]
    split <;> exact h.aside rfl rfl rfl
  · rwa [State.postPasses_inAttempt s attempt]

theorem lineStretch (p : Port) (bits : List Bool) (falls : Bool) (h : s.Keeps C P) :
    (s.lineStretch p bits falls).Keeps C P := by
  obtain ⟨x, e⟩ := s.lineStretch_frame p bits falls
  rw [e]
  exact h.aside (Main.setPort_contacts _ p x) rfl rfl

theorem clearDrainPost (h : s.Keeps C P) : s.clearDrainPost.Keeps C P := by
  unfold State.clearDrainPost
  split
  · exact h
  · exact h.aside rfl rfl rfl
  · exact h.aside rfl rfl rfl
  · split <;> exact h.aside rfl rfl rfl

theorem offerDrainPost (h : s.Keeps C P) : s.offerDrainPost.Keeps C P := by
  unfold State.offerDrainPost
  split
  · exact h
  · split <;> exact h.aside rfl rfl rfl

theorem clearedPostEnded (h : s.Keeps C P) : s.clearedPostEnded.Keeps C P := by
  have dealt : (s.setDrain { s.main.drain with post := .none }).Keeps C P := h.aside rfl rfl rfl
  simp only [State.clearedPostEnded]
  split
  · exact dealt.offerDrainPost
  · exact dealt

theorem releaseAlert (q : Nat) (a : AlertState) (h : s.Keeps C P) : (s.releaseAlert q a).Keeps C P := by
  cases a with
  | none | acked => exact h
  | pending => exact h.aside rfl rfl rfl
  | slotted =>
    simp only [State.releaseAlert]
    split <;> exact h.aside rfl rfl rfl

theorem attemptDue (quiet : Nat) (h : s.Keeps C P) : (s.attemptDue quiet).Keeps C P := by
  unfold State.attemptDue
  split
  · split
    · exact h.aside rfl rfl rfl
    · exact h
  · split
    · exact h
    · split
      · exact h
      · exact h.aside rfl rfl rfl

theorem attemptAfter (quiet : Nat) (h : s.Keeps C P) : (s.attemptAfter quiet).Keeps C P := by
  unfold State.attemptAfter
  split
  · exact h
  · split
    · exact (h.lineSilent quiet).attemptDue quiet
    · exact h.lineSilent quiet

theorem tellSent (c : Current) (h : s.Keeps C P) : (s.tellSent c).Keeps C P := by
  unfold State.tellSent
  split
  · exact h.aside rfl rfl rfl
  · split
    · exact h.clearedPostEnded
    · exact offerDrainPost (h.aside rfl rfl rfl)
  · split
    · exact h.clearedPostEnded
    · unfold State.batchEndTransmitted
      split <;> exact h.aside rfl rfl rfl
  · exact h

theorem attemptSent (h : s.Keeps C P) : s.attemptSent.Keeps C P := by
  unfold State.attemptSent
  split
  · exact h
  · split
    · exact tellSent _ (h.aside rfl rfl rfl)
    · exact h

theorem enterRun (h : s.Keeps C P) : s.enterRun.Keeps C P :=
  offerStatus (h.aside rfl rfl rfl)

theorem runPost (h : s.Keeps C P) : s.runPost.Keeps C P := by
  unfold State.runPost
  split
  · exact h.enterRun
  · exact h

theorem ignRose (h : s.Keeps C P) : s.ignRose.Keeps C P := by
  unfold State.ignRose
  split
  · exact h.enterRun
  · exact h

theorem judgeSag (h : s.Keeps C P) : s.judgeSag.Keeps C P := by
  unfold State.judgeSag
  split
  · exact h.aside rfl rfl rfl
  · exact h

theorem judgeNormal (h : s.Keeps C P) : s.judgeNormal.Keeps C P := by
  unfold State.judgeNormal
  split
  · exact h.aside rfl rfl rfl
  · exact h

theorem answerCount (src : Nat) (part : Byte) (h : s.Keeps C P) : (s.answerCount src part).Keeps C P := by
  unfold State.answerCount
  split
  · exact h
  · exact h.offer _

theorem evict (h : s.Keeps C P) : s.evict.Keeps C P := by
  unfold State.evict
  split
  · exact h
  · split
    · exact h.dropContact _
    · exact h

/-! ## A post heard -/

theorem hear (src : Nat) (role : Option Role) {act : State → State} (h : s.Keeps C P)
    (acts : ∀ u, u.Keeps C P → (act u).Keeps C P) : (s.hear src role act).Keeps C P := by
  rcases s.hear_cases src role act with ⟨-, e⟩ | ⟨-, -, -, e⟩ | ⟨r, -, -, -, -, e⟩ <;> rw [e]
  · exact h.postPasses
  · exact h.aside rfl rfl rfl
  · exact acts _ (h.aside rfl rfl rfl)

theorem hearAddressed (src : Nat) (role : Role) {act : State → State} (h : s.Keeps C P)
    (acts : ∀ u, u.Keeps C P → (act u).Keeps C P) : (s.hearAddressed src role act).Keeps C P :=
  h.hear src _ fun _ hu => acts _ hu.restartParkReturn

theorem hearQuery (src : Nat) (role : Role) {act : State → State} (h : s.Keeps C P)
    (acts : ∀ u, u.Keeps C P → (act u).Keeps C P) : (s.hearQuery src role act).Keeps C P := by
  refine h.hear src _ fun u hu => ?_
  split
  · exact hu
  · exact acts _ hu.restartParkReturn

end State.Keeps

/-! ## The writes and the operations that make them -/

/-- The route stays as it is while the walk visits an entry. -/
theorem State.visitIndex_routeState (s : State) (i : Nat) : (s.visitIndex i).ret.routeState = s.ret.routeState := by
  unfold State.visitIndex
  split
  · rfl
  · split
    · split
      · simp only [State.write_ret, Retained.missHere]
        split <;> rfl
      · rfl
    · rfl

namespace LogPromise

variable {C : Contact → Prop} {P : Retained → Prop} (hP : LogPromise C P)
include hP

/-! ## The writes -/

section

variable {r : Retained}

theorem updRunningEntry (m : MeterId) (f : RouteEntry → RouteEntry) (h : P r) : P (r.updRunningEntry m f) := by
  rw [Retained.updRunningEntry_frame]
  exact hP.aside h rfl rfl rfl rfl

theorem openRecord {c : Contact} (hc : C c) (room : r.room = true) (h : P r) : P (r.openRecord c) :=
  hP.updRunningEntry _ _ (hP.opened hc room h)

theorem updateRecord {c : Contact} (q : Nat) (hc : C c) (h : P r) : P (r.updateRecord c q) :=
  hP.updRunningEntry _ _ (hP.followed q hc h)

theorem markDouble (m : MeterId) (h : P r) : P (r.markDouble m) := by
  unfold Retained.markDouble
  split
  · exact hP.updRunningEntry _ _ (hP.changed _ keepsMeasured_markDouble h)
  · exact hP.updRunningEntry _ _ h

theorem missHere (e : RouteEntry) (h : P r) : P (r.missHere e) := by
  unfold Retained.missHere
  split
  · rename_i room
    exact hP.aside (hP.missed { meter := e.meter, dials := e.dr, prior := e.p, resets := e.kr } room h) rfl rfl rfl rfl
  · exact hP.aside h rfl rfl rfl rfl

theorem timePasses (n : Nat) (h : P r) : P (r.passTime n) := by
  unfold Retained.passTime
  split <;> exact hP.aside h rfl rfl rfl rfl

end

/-! ## The shared operations -/

variable {s : State}

theorem update (q : Nat) {f : Record → Record} (hf : KeepsMeasured f) (h : s.Keeps C P) :
    (s.write fun r => r.updRecord q f).Keeps C P :=
  h.write (hP.changed q hf)

theorem changeEntry (m : MeterId) (f : RouteEntry → RouteEntry) (h : s.Keeps C P) :
    (s.changeEntry m f).Keeps C P := by
  rcases s.changeEntry_cases m f with ⟨-, e⟩ | ⟨-, -, e⟩ <;> rw [e]
  · exact h
  · exact h.write fun k => hP.aside k rfl rfl rfl rfl

theorem raise (q : Nat) (h : s.Keeps C P) : (s.raise q).Keeps C P := by
  rcases s.raise_cases q with e | e <;> rw [e]
  · exact h
  · exact hP.update q (keepsMeasured_withAlert _) h

theorem markAll (m : DrainMark) (l : List Nat) (h : s.Keeps C P) : (s.markAll m l).Keeps C P :=
  h.foldl (fun _ q hu => hP.update q (keepsMeasured_withMark m) hu) l

theorem returnSlotted (h : s.Keeps C P) : s.returnSlotted.Keeps C P :=
  h.foldl (fun _ x hu => hP.update x.seq (keepsMeasured_withAlert _) hu) _

theorem passTime (n : Nat) (h : s.Keeps C P) : (s.passTime n).Keeps C P := by
  obtain ⟨contacts, now, before⟩ := h
  refine ⟨?_, ?_, before⟩
  · rw [State.passTime_main]
    split
    · exact List.forall_mem_map.2 fun c hc => hP.same (contacts c hc) rfl rfl rfl
    · exact contacts
  · rw [State.passTime_ret]
    split
    · exact hP.timePasses n now
    · exact now

/-! ## The contacts -/

theorem enterHeld {c : Contact} (hc : C c) (room : s.ret.room = true) (h : s.Keeps C P) :
    (s.enterHeld c).Keeps C P := by
  have held : C (c.asHeld s.main.mute s.ret.nextSeq) := hP.same hc rfl rfl rfl
  rw [State.enterHeld_eq]
  exact hP.raise _ ((h.write (hP.openRecord held room)).setContact held)

theorem attemptClaim (m : MeterId) (h : s.Keeps C P) : (s.attemptClaim m).Keeps C P := by
  rcases s.attemptClaim_cases m with e | ⟨c, hc, -, outcome⟩
  · rwa [e]
  have known := h.of_contactOf hc
  rcases outcome with ⟨-, e⟩ | ⟨room, ⟨k, -, e⟩ | ⟨-, -, e⟩ | ⟨-, -, e⟩⟩ <;> rw [e]
  · exact h.setContact (hP.same known rfl rfl rfl)
  · exact h.setContact (hP.same known rfl rfl rfl)
  · exact hP.enterHeld known room h
  · rcases s.offerClaim_cases c with ⟨-, e⟩ | ⟨-, e⟩ <;> rw [e]
    · exact (h.offer _).setContact (hP.same known rfl rfl rfl)
    · exact h

theorem removeContact (m : MeterId) (h : s.Keeps C P) : (s.removeContact m).Keeps C P := by
  rcases s.removeContact_cases m with ⟨-, e⟩ | ⟨c, -, ⟨q, -, e⟩ | ⟨-, e⟩ | ⟨-, e⟩⟩ <;> rw [e]
  · exact h
  · exact (hP.update q keepsMeasured_close h).dropContact m
  · exact State.Keeps.dropContact m (h.aside rfl rfl rfl)
  · exact h.dropContact m

theorem finishIdle (m : MeterId) (h : s.Keeps C P) : (s.finishIdle m).Keeps C P := by
  unfold State.finishIdle
  split
  · exact h
  · split
    · exact hP.removeContact m h
    · exact h

theorem clearContacts (h : s.Keeps C P) : s.clearContacts.Keeps C P := by
  have closed := h.foldl (fun _ q hu => hP.update q keepsMeasured_close hu) s.heldSeqs
  exact .of_no_contacts closed.retained rfl

/-! ## Arrivals -/

theorem followRecord {c : Contact} (hc : C c) (h : s.Keeps C P) : (s.followRecord c).Keeps C P := by
  unfold State.followRecord
  split
  · exact hP.raise _ (h.write (hP.updateRecord _ hc))
  · exact h

theorem countedArrival {x : Arrival} (valid : x.burst.WellFormed) (h : s.Keeps C P) :
    (s.countedArrival x).Keeps C P := by
  unfold State.countedArrival
  split
  · exact h
  · rename_i c _
    have recorded := hP.recorded s c x valid
    have followed := hP.followRecord recorded (h.setContact recorded)
    simp only [State.judgeEligibility]
    split
    · exact hP.attemptClaim _ followed
    · split
      · exact hP.attemptClaim _ (followed.setContact (hP.same recorded rfl rfl rfl))
      · exact followed

theorem duplicateArrival (m : MeterId) (t q : Nat) (h : s.Keeps C P) : (s.duplicateArrival m t q).Keeps C P := by
  unfold State.duplicateArrival
  split
  · exact h
  · rename_i c hc
    have recorded : (s.setContact (s.recordDuplicate c t q)).Keeps C P :=
      h.setContact (hP.same (h.of_contactOf hc) rfl rfl rfl)
    simp only
    split
    · exact recorded.write (hP.changed _ (keepsMeasured_followDuplicate _ _))
    · exact recorded

theorem ensureContact {b : Burst} (t : Nat) (on : Bool) (valid : b.WellFormed) (h : s.Keeps C P) :
    (s.ensureContact b t on).Keeps C P := by
  unfold State.ensureContact
  split
  · exact h
  · exact h.evict.addContact (hP.fresh s b t on valid)

theorem handOver (p : Port) (f : Frame) (h : s.Keeps C P) : (s.handOver p f (s.judge f)).Keeps C P := by
  simp only [State.handOver]
  split
  · rename_i accepted
    have valid := State.wellFormed_of_accepted accepted
    exact hP.countedArrival valid (hP.ensureContact _ _ valid h)
  · exact hP.duplicateArrival _ _ _ h
  · exact h

theorem takeFrom (p : Port) (h : s.Keeps C P) : (s.takeFrom p).Keeps C P := by
  unfold State.takeFrom
  split
  · exact h
  · rename_i f rest _
    let left := s.setPort p { s.main.port p with slots := rest }
    have counted : (left.countDisposition p (s.judge f).disposition).Keeps C P :=
      h.aside ((Main.setPort_contacts _ p _).trans (Main.setPort_contacts _ p _)) rfl rfl
    have judged : (left.countDisposition p (s.judge f).disposition).judge f = s.judge f :=
      (State.judge_setPort left p _ f).trans (State.judge_setPort s p _ f)
    have handed := hP.handOver p f counted
    rwa [judged] at handed

/-! ## The timers of a contact -/

theorem contactExpiry {m : MeterId} {timer : Contact → Timer} {act : State → Contact → State} (h : s.Keeps C P)
    (kept : ∀ (u : State) (c : Contact), u.Keeps C P → C c → (act u c).Keeps C P) :
    (s.contactExpiry m timer act).Keeps C P := by
  unfold State.contactExpiry
  split
  · exact h
  · rename_i c hc
    split
    · exact h
    · exact kept _ _ (hP.passTime _ h) (hP.same (h.of_contactOf hc) rfl rfl rfl)

theorem idleExpired {c : Contact} (hc : C c) (h : s.Keeps C P) : (s.idleExpired c).Keeps C P := by
  unfold State.idleExpired
  split
  · exact h.setContact (hP.same hc rfl rfl rfl)
  · exact hP.removeContact _ h

theorem holdOffExpired {c : Contact} (hc : C c) (h : s.Keeps C P) : (s.holdOffExpired c).Keeps C P :=
  hP.attemptClaim _ (h.setContact (hP.same hc rfl rfl rfl))

theorem settleExpired {c : Contact} (hc : C c) (h : s.Keeps C P) : (s.settleExpired c).Keeps C P := by
  unfold State.settleExpired State.settleContact
  split
  · split
    · rename_i room
      exact hP.finishIdle _ ((hP.enterHeld hc room h).offer _)
    · exact hP.finishIdle _ (hP.changeEntry _ _ ((h.offer _).setContact (hP.same hc rfl rfl rfl)))
  · exact h

/-! ## Claims -/

theorem answerAsHolder (m : MeterId) (q : Nat) (c : Claim) (h : s.Keeps C P) :
    (s.answerAsHolder m q c).Keeps C P := by
  unfold State.answerAsHolder
  split
  · exact h.offer _
  · exact h.write (hP.markDouble m)

theorem cede {x : Contact} (k : Claim) (hx : C x) (h : s.Keeps C P) : (s.cede x k).Keeps C P :=
  hP.changeEntry _ _ (h.setContact (hP.same hx rfl rfl rfl))

theorem claimAtEntry (m : MeterId) (c : Claim) (h : s.Keeps C P) : (s.claimAtEntry m c).Keeps C P := by
  unfold State.claimAtEntry
  split
  · exact h
  · split
    · exact hP.answerAsHolder _ _ _ h
    · split <;> exact hP.changeEntry _ _ h

theorem claimAtListening {x : Contact} (c : Claim) (hx : C x) (h : s.Keeps C P) :
    (s.claimAtListening x c).Keeps C P := by
  unfold State.claimAtListening
  split
  · exact hP.answerAsHolder _ _ _ h
  · split
    · exact hP.cede c hx h
    · exact hP.changeEntry _ _ h

theorem claimAtClaiming {x : Contact} (c : Claim) (hx : C x) (h : s.Keeps C P) :
    (s.claimAtClaiming x c).Keeps C P := by
  unfold State.claimAtClaiming
  split
  · exact hP.finishIdle _ (hP.cede c hx h)
  · exact hP.changeEntry _ _ (h.offer _)

theorem claimAtCeded {x : Contact} (k c : Claim) (hx : C x) (h : s.Keeps C P) :
    (s.claimAtCeded x k c).Keeps C P := by
  unfold State.claimAtCeded
  split
  · exact hP.changeEntry _ _ (h.setContact (hP.same hx rfl rfl rfl))
  · exact h

theorem placeClaim (m : MeterId) (c : Claim) (h : s.Keeps C P) : (s.placeClaim m c).Keeps C P := by
  unfold State.placeClaim
  split
  · exact h
  · split
    · exact hP.claimAtEntry m c h
    · rename_i x hx
      have known := h.of_contactOf hx
      split
      · exact hP.answerAsHolder _ _ _ h
      · exact hP.claimAtListening c known h
      · exact hP.claimAtClaiming c known h
      · exact hP.claimAtCeded _ c known h

theorem placeYield (m : MeterId) (n : Nat) (h : s.Keeps C P) : (s.placeYield m n).Keeps C P := by
  have entry (reached : Bool) {u : State} (hu : u.Keeps C P) :
      (if reached then u.changeEntryState m (EntryState.revert n) else u).Keeps C P := by
    split
    · exact hP.changeEntry _ _ hu
    · exact hu
  simp only [State.placeYield]
  split
  · exact h
  · cases hx : s.contactOf m with
    | none => exact entry _ h
    | some x =>
      refine entry _ ?_
      simp only
      split
      · exact h.setContact (hP.same (h.of_contactOf hx) rfl rfl rfl)
      · exact h

theorem revertPeer (n : Nat) (h : s.Keeps C P) : (s.revertPeer n).Keeps C P := by
  have released (x : Contact) (hx : x ∈ s.main.contacts) : C (if x.cededToClaiming n then x.release else x) := by
    split
    · exact hP.same (h.contacts x hx) rfl rfl rfl
    · exact h.contacts x hx
  have reverted : ({ s with main := { s.main with
      contacts := s.main.contacts.map fun x => if x.cededToClaiming n then x.release else x } } : State).Keeps C P :=
    ⟨List.forall_mem_map.2 released, h.retained⟩
  simp only [State.revertPeer]
  split
  · exact reverted.write fun k => hP.aside k rfl rfl rfl rfl
  · exact reverted

/-! ## The drain engine and the alert unit -/

theorem clearBatch (h : s.Keeps C P) : s.clearBatch.Keeps C P :=
  (hP.markAll .unsent s.main.drain.batch h).clearDrainPost.aside rfl rfl rfl

theorem endDrain (h : s.Keeps C P) : s.endDrain.Keeps C P := by
  unfold State.endDrain
  split
  · exact h
  · exact (hP.clearBatch h).aside rfl rfl rfl

theorem formBatch (h : s.Keeps C P) : s.formBatch.Keeps C P := by
  have marked := hP.markAll .sentInBatch s.ret.batchChoice h
  simp only [State.formBatch]
  split
  · exact marked.aside rfl rfl rfl
  · exact State.Keeps.offerDrainPost (marked.aside rfl rfl rfl)

theorem openDrain (src : Nat) (h : s.Keeps C P) : (s.openDrain src).Keeps C P := by
  have cleared : (if s.main.drain.state = .idle then s else s.clearBatch).Keeps C P := by
    split
    · exact h
    · exact hP.clearBatch h
  exact hP.formBatch (cleared.aside rfl rfl rfl)

theorem closeDrain (src : Nat) (h : s.Keeps C P) : (s.closeDrain src).Keeps C P := by
  unfold State.closeDrain
  split
  · exact hP.endDrain h
  · exact h

theorem commitDrain (src v : Nat) (h : s.Keeps C P) : (s.commitDrain src v).Keeps C P := by
  unfold State.commitDrain
  split
  · have committed : (s.write (Retained.commit s.main.drain.batch v)).Keeps C P := h.write (hP.committed _ v)
    have released := committed.foldl (fun _ x hu => hu.releaseAlert x.1 x.2) (s.releasedAlerts v)
    exact hP.formBatch (released.aside rfl rfl rfl)
  · exact h

theorem attemptFailed (h : s.Keeps C P) : s.attemptFailed.Keeps C P := by
  have left (c : Option Current) : (s.setCurrent c).Keeps C P := h.aside rfl rfl rfl
  unfold State.attemptFailed
  split
  · exact h
  · split
    · exact h
    · split
      · split
        · exact (left none).clearedPostEnded
        · exact left none
      · split
        · split
          · exact hP.endDrain ((left none).aside rfl rfl rfl)
          · exact (left none).aside rfl rfl rfl
        · exact left _

theorem promote (h : s.Keeps C P) : s.promote.Keeps C P := by
  unfold State.promote
  split
  · exact h
  · split
    · exact (hP.update _ (keepsMeasured_withAlert _) (h.aside rfl rfl rfl)).aside rfl rfl rfl
    · exact h

theorem ackAlert (slot : Byte) (q : Nat) (h : s.Keeps C P) : (s.ackAlert slot q).Keeps C P := by
  unfold State.ackAlert
  split
  · exact h
  · split
    · exact hP.update q (keepsMeasured_withAlert _) (h.aside rfl rfl rfl)
    · exact h

/-! ## The route -/

theorem routeBegun (route count : Nat) (h : s.Keeps C P) : (s.routeBegun route count).Keeps C P := by
  simp only [State.routeBegun]
  split
  · exact h
  · split
    · rename_i accepted
      have begun := h.write (hP.begun route count accepted)
      split
      · exact begun
      · exact begun.offerStatus
    · exact h.aside rfl rfl rfl

theorem takeEntries (fs : List EntryFields) (h : s.Keeps C P) : (s.takeEntries fs).Keeps C P := by
  refine h.foldl (fun u f hu => ?_) fs
  unfold State.takeEntry
  split
  · exact hu.write fun k => hP.aside k rfl rfl rfl rfl
  · exact hu
  · exact hu.aside rfl rfl rfl

theorem routeGone (src : Nat) (h : s.Keeps C P) : (s.routeGone src).Keeps C P := by
  unfold State.routeGone State.offerGap
  split
  · rename_i loading
    have going : (s.write (Retained.startRoute s.main.contacts)).Keeps C P :=
      h.write fun k => hP.aside k rfl rfl rfl (by rw [loading]; rfl)
    split
    · exact going.offerStatus
    · exact (going.offer _).offerStatus
  · exact h

theorem routeClosed (h : s.Keeps C P) : s.routeClosed.Keeps C P := by
  unfold State.routeClosed
  split
  · rename_i running
    have closing : (s.write Retained.startClosing).Keeps C P :=
      h.write fun k => hP.aside k rfl rfl rfl (by rw [running]; rfl)
    exact State.Keeps.offerStatus ((hP.clearContacts closing).aside rfl rfl rfl)
  · exact h

theorem visitIndex (i : Nat) (h : s.Keeps C P) : (s.visitIndex i).Keeps C P := by
  unfold State.visitIndex
  split
  · exact h
  · split
    · split
      · exact h.write (hP.missHere _)
      · exact h.write fun k => hP.aside k rfl rfl rfl rfl
    · exact h

theorem stepWalk (h : s.Keeps C P) : s.stepWalk.Keeps C P := by
  have visited := hP.visitIndex s.main.walk h
  simp only [State.stepWalk]
  split
  · exact h
  · rename_i walks
    have closing : (s.visitIndex s.main.walk).ret.routeState = .closing := by
      rw [State.visitIndex_routeState]
      by_contra other
      exact walks (.inr other)
    split
    · exact (visited.write (hP.ended closing)).offerStatus
    · exact visited.aside rfl rfl rfl

/-! ## Parking, reset, starts and losses of supply -/

theorem enterParked (h : s.Keeps C P) : s.enterParked.Keeps C P := by
  have flushed : s.clearContacts.flushPorts.Keeps C P := (hP.clearContacts h).aside rfl rfl rfl
  exact (hP.endDrain flushed).aside rfl rfl rfl

theorem parkPost (h : s.Keeps C P) : s.parkPost.Keeps C P := by
  unfold State.parkPost
  split
  · exact h
  · exact hP.enterParked h

theorem ignFell (h : s.Keeps C P) : s.ignFell.Keeps C P := by
  unfold State.ignFell
  split
  · exact hP.enterParked h
  · exact h

theorem stationReset (h : s.Keeps C P) : s.stationReset.Keeps C P := by
  have marks := hP.markAll .unsent s.main.drain.batch (hP.returnSlotted (hP.clearContacts h))
  exact State.Keeps.offerStatus (.of_no_contacts marks.retained rfl)

theorem started (strap : Nat) (block : List Byte) (pins : Pins) (h : s.Keeps C P) :
    (s.started strap block pins).Keeps C P := by
  have decided : s.decideCause.Keeps C P := by
    unfold State.decideCause
    split
    · exact h.foldl (fun _ x hu => hP.update x.seq keepsMeasured_restore hu) _
    · exact h.write fun _ => hP.cleared true
  exact State.Keeps.offerStatus (.of_no_contacts decided.retained rfl)

/-- A loss of the main supply brings back the retained domain as it stood before one of the step's writes (R159). -/
theorem loseMain (cut : Nat) (h : s.Keeps C P) : (s.loseMain cut).Keeps C P := by
  obtain ⟨now, before⟩ := h.retained
  have back : P (s.retainedBefore cut) := by
    unfold State.retainedBefore
    cases last : (s.journal.take cut).getLast? with
    | none => exact now
    | some r => exact before r (List.mem_of_mem_take (List.mem_of_getLast? last))
  unfold State.loseMain
  split
  · refine .of_no_contacts ⟨?_, fun _ hr => absurd hr List.not_mem_nil⟩ rfl
    show P (if s.backup then s.retainedBefore cut else clearedRetained false)
    split
    · exact back
    · exact hP.cleared false
  · exact h.begin

theorem loseBackup (h : s.Keeps C P) : s.loseBackup.Keeps C P := by
  obtain ⟨contacts, now, before⟩ := h
  refine ⟨contacts, ?_, before⟩
  show P (if s.powered then s.ret else clearedRetained false)
  split
  · exact now
  · exact hP.cleared false

/-! ## Posts -/

theorem actOnKind (k : Kind) (src : Nat) (body : List Byte) (h : s.Keeps C P) :
    (s.actOnKind k src body).Keeps C P := by
  cases k with
  | claim => exact hP.placeClaim _ _ h
  | yield => exact hP.placeYield _ _ h
  | alertAck => exact hP.ackAlert _ _ h
  | routeBegin => exact hP.routeBegun _ _ h
  | routeEntry => exact hP.takeEntries _ h
  | routeGo => exact hP.routeGone _ h
  | routeClose => exact hP.routeClosed h
  | park => exact hP.parkPost h
  | run => exact h.runPost
  | reset => exact hP.stationReset h
  | configQuery => exact h.offer _
  | countQuery => exact h.answerCount _ _
  | drainOpen => exact hP.openDrain _ h
  | commit => exact hP.commitDrain _ _ h
  | drainClose => exact hP.closeDrain _ h
  | status | alert | routeGap | configReport | countReport | record | batchEnd => exact h

theorem hearBytes (bytes : List Byte) (h : s.Keeps C P) : (s.hearBytes bytes).Keeps C P := by
  unfold State.hearBytes
  split
  · split
    · exact h.postPasses.aside rfl rfl rfl
    · exact h.postPasses
  · refine h.hear _ _ fun u hu => ?_
    unfold State.actOnPost
    split
    · split
      · split
        · exact hP.actOnKind _ _ _ hu
        · exact hP.actOnKind _ _ _ hu.restartParkReturn
      · exact hu
    · exact hu

/-! ## The timers outside the contact table -/

theorem statusTimerExpired (h : s.Keeps C P) : s.statusTimerExpired.Keeps C P := by
  unfold State.statusTimerExpired
  split
  · exact h
  · exact (hP.passTime _ h).offerStatus

theorem silenceExpired (n : Nat) (h : s.Keeps C P) : (s.silenceExpired n).Keeps C P := by
  unfold State.silenceExpired
  split
  · exact h
  · exact hP.revertPeer n ((hP.passTime _ h).aside rfl rfl rfl)

theorem commitWaitExpired (h : s.Keeps C P) : s.commitWaitExpired.Keeps C P := by
  unfold State.commitWaitExpired
  split
  · exact h
  · exact hP.endDrain (hP.passTime _ h)

theorem wakeSettled (h : s.Keeps C P) : s.wakeSettled.Keeps C P := by
  unfold State.wakeSettled
  split
  · exact h
  · exact State.Keeps.offerStatus ((hP.passTime _ h).aside rfl rfl rfl)

theorem parkReturnExpired (h : s.Keeps C P) : s.parkReturnExpired.Keeps C P := by
  unfold State.parkReturnExpired
  split
  · exact h
  · exact hP.enterParked (hP.passTime _ h)

/-! ## Every command and every step -/

theorem exec {t : State} (i : Instr) (h : s.Keeps C P) (next : Machine.exec i s = .next t) : t.Keeps C P := by
  cases i with
  | frameComplete p wait bits falls => cases next; exact (hP.passTime wait h.begin).lineStretch p bits falls
  | take p => cases next; exact hP.takeFrom p h.begin
  | idleExpiry m => cases next; exact hP.contactExpiry h.begin fun _ _ hu hc => hP.idleExpired hc hu
  | holdOffExpiry m => cases next; exact hP.contactExpiry h.begin fun _ _ hu hc => hP.holdOffExpired hc hu
  | settleExpiry m => cases next; exact hP.contactExpiry h.begin fun _ _ hu hc => hP.settleExpired hc hu
  | attempt quiet => cases next; exact h.begin.attemptAfter quiet
  | postSent => cases next; exact h.begin.attemptSent
  | attemptLost => cases next; exact hP.attemptFailed h.begin
  | postReceived bytes => cases next; exact hP.hearBytes bytes h.begin
  | claim src m q hold => cases next; exact h.begin.hear _ _ fun _ hu => hP.placeClaim m _ hu
  | yield src m => cases next; exact h.begin.hear _ _ fun _ hu => hP.placeYield m _ hu
  | status src role | alert src role => cases next; exact h.begin.hear _ _ fun _ hu => hu
  | alertAck src slot q => cases next; exact h.begin.hearAddressed _ _ fun _ hu => hP.ackAlert slot _ hu
  | routeBegin src route count => cases next; exact h.begin.hearAddressed _ _ fun _ hu => hP.routeBegun _ _ hu
  | routeEntry src fs => cases next; exact h.begin.hearAddressed _ _ fun _ hu => hP.takeEntries fs hu
  | routeGo src => cases next; exact h.begin.hearAddressed _ _ fun _ hu => hP.routeGone _ hu
  | routeClose src => cases next; exact h.begin.hearAddressed _ _ fun _ hu => hP.routeClosed hu
  | walkStep => cases next; exact hP.stepWalk h.begin
  | park src => cases next; exact h.begin.hearAddressed _ _ fun _ hu => hP.parkPost hu
  | run src => cases next; exact h.begin.hearAddressed _ _ fun _ hu => hu.runPost
  | reset src role => cases next; exact h.begin.hearQuery _ _ fun _ hu => hP.stationReset hu
  | configQuery src role => cases next; exact h.begin.hearQuery _ _ fun _ hu => hu.offer _
  | countQuery src role part => cases next; exact h.begin.hearQuery _ _ fun _ hu => hu.answerCount _ part
  | drainOpen src => cases next; exact h.begin.hearAddressed _ _ fun _ hu => hP.openDrain _ hu
  | commit src v => cases next; exact h.begin.hearAddressed _ _ fun _ hu => hP.commitDrain _ _ hu
  | drainClose src => cases next; exact h.begin.hearAddressed _ _ fun _ hu => hP.closeDrain _ hu
  | commitWaitExpiry => cases next; exact hP.commitWaitExpired h.begin
  | drainPostOffer =>
    cases next
    split
    · exact h.begin.offerDrainPost
    · exact h.begin
  | promotion => cases next; exact hP.promote h.begin
  | statusTimerExpiry => cases next; exact hP.statusTimerExpired h.begin
  | silence n => cases next; exact hP.silenceExpired _ h.begin
  | ignFallingEdge => cases next; exact hP.ignFell (h.begin.aside rfl rfl rfl)
  | ignRisingEdge => cases next; exact State.Keeps.ignRose (h.begin.aside rfl rfl rfl)
  | wake quiet => cases next; exact h.begin.lineActive quiet
  | wakeSettleExpiry => cases next; exact hP.wakeSettled h.begin
  | parkReturnExpiry => cases next; exact hP.parkReturnExpired h.begin
  | enterSag mv => cases next; exact State.Keeps.judgeSag (h.begin.aside rfl rfl rfl)
  | returnToNormal mv => cases next; exact State.Keeps.judgeNormal (h.begin.aside rfl rfl rfl)
  | mainSupplyLoss cut => cases next; exact hP.loseMain cut h
  | startUp straps block ign mv => cases next; exact hP.started _ block _ h.begin
  | backupSupplyLoss =>
    cases next
    split
    · exact hP.loseBackup h.begin
    · exact h.begin.aside rfl rfl rfl

theorem step {t : State} (h : s.Keeps C P) (next : Machine.step s = .next t) : t.Keeps C P := by
  unfold Machine.step at next
  split at next
  · cases next
    exact hP.passTime 1 h.begin
  · rename_i i rest _
    exact hP.exec (s := { s with pending := rest }) i (h.aside rfl rfl rfl) next

end LogPromise

end Sys2Proof.Machine
end

section
/-! # Every step keeps the stored readings in range (R55) -/

namespace Sys2Proof.Machine

theorem Record.mem_readFields {x : Record} {f : ReadFields} : f ∈ x.readFields ↔ x.body = .read f := by
  obtain ⟨q, route, o, mark, alert, body⟩ := x
  cases body <;> simp [Record.readFields]

/-- A log whose readings are in range, in terms of what was measured of its records. -/
theorem Retained.readingsInRange_iff (r : Retained) :
    r.ReadingsInRange ↔ ∀ x ∈ r.log, ∀ v ∈ x.measured, MeasuredInRange v.1 v.2.1 v.2.2 := by
  simp [Retained.ReadingsInRange, Record.measured]

namespace Retained.ReadingsInRange

variable {r r' : Retained}

theorem of_log (h : r.ReadingsInRange) (log : r'.log = r.log) : r'.ReadingsInRange := by
  unfold Retained.ReadingsInRange
  rwa [log]

theorem of_log_nil (h : r.log = []) : r.ReadingsInRange :=
  fun _ hx => absurd (h ▸ hx) List.not_mem_nil

theorem updRecord (q : Nat) {f : Record → Record} (h : r.ReadingsInRange)
    (hf : ∀ x ∈ r.log, ∀ v ∈ (f x).measured, MeasuredInRange v.1 v.2.1 v.2.2) :
    (r.updRecord q f).ReadingsInRange := by
  rw [Retained.readingsInRange_iff] at h ⊢
  refine List.forall_mem_map.2 fun x hx => ?_
  split
  · exact hf x hx
  · exact h x hx

/-- A record joins the log: a READ record has to be in range. -/
theorem append (route : Nat) (o : OpenState) {b : RecordBody} (h : r.ReadingsInRange)
    (hb : ∀ f, b = .read f → MeasuredInRange f.dials f.reading f.measures) :
    (r.append route o b).ReadingsInRange := by
  intro x hx f hf
  rcases List.mem_append.1 (r.append_log route o b ▸ hx) with mem | new
  · exact h x mem f hf
  · rw [List.mem_singleton.1 new] at hf
    exact hb f (Record.mem_readFields.1 hf)

theorem endRoute (h : r.ReadingsInRange) : r.endRoute.ReadingsInRange := by
  unfold Retained.endRoute
  split
  · exact (h.append r.routeNumber .closed (b := .routeEnd _) fun _ e => RecordBody.noConfusion e).of_log rfl
  · exact h.of_log rfl

/-- A COMMIT takes records out of the log, and moves the DRAIN-MARK of others (R173). -/
theorem commit (batch : List Nat) (v : Nat) (h : r.ReadingsInRange) : (r.commit batch v).ReadingsInRange := by
  rw [Retained.readingsInRange_iff] at h ⊢
  refine List.forall_mem_map.2 fun x hx => ?_
  have mem := (List.mem_filter.1 hx).1
  split <;> exact h x mem

end Retained.ReadingsInRange

/-- A record that follows a contact has the contact's reading (R38). -/
theorem Record.follow_measured (r : Retained) (c : Contact) (x : Record) :
    ∀ v ∈ (x.follow r c).measured, v = (c.dials, c.reading, c.measures) := by
  obtain ⟨q, route, o, mark, alert, body⟩ := x
  cases body <;> simp [Record.follow, Record.measured, Record.readFields, eq_comm]

/-- Readings in range are a promise about the log, with the contacts in range. -/
theorem readingsInRange_promise : LogPromise Contact.InRange Retained.ReadingsInRange where
  same := fun h dials reading measures => by
    unfold Contact.InRange
    rwa [dials, reading, measures]
  fresh := fun s b t on ⟨_, low, high, reading, _⟩ => .of_none low high reading
  recorded := fun s c x valid => s.evaluate_inRange c valid
  aside := fun h log _ _ _ => h.of_log log
  changed := fun {r} q {f} hf h => h.updRecord q fun x hx v hv =>
    r.readingsInRange_iff.1 h x hx v ((hf x).2 ▸ hv)
  followed := fun {r} {c} q hc h => h.updRecord q fun x _ v hv => by
    rw [x.follow_measured r c v hv]
    exact hc
  opened := fun {r} {c} hc _ h => h.append r.recordRoute .opened fun f e => by
    cases e
    exact hc
  missed := fun {r} f _ h => h.append r.routeNumber .closed fun _ e => RecordBody.noConfusion e
  begun := fun _ _ _ h => h.of_log rfl
  ended := fun _ h => h.endRoute
  committed := fun batch v h => h.commit batch v
  cleared := fun _ => .of_log_nil rfl

/-- Settles O54: the contacts and the log together, through every write that a loss of supply can take back. -/
theorem storedReadingsAreKeptInRange : Obligations.StoredReadingsAreKeptInRange := by
  unfold Obligations.StoredReadingsAreKeptInRange
  intro s t log contacts next
  obtain ⟨contacts', log'⟩ := readingsInRange_promise.step ⟨contacts, log⟩ next
  exact ⟨log', contacts'⟩

end Sys2Proof.Machine
end

section
/-! # The alert slots: their rules, and what a release of records makes of them (R63, R68) -/

namespace Sys2Proof.Machine

/-! ## The four slots -/

theorem Slots.get_set (x : Slots) (i j : Fin 4) (v : Option Nat) :
    (x.set i v).get j = if j = i then v else x.get j := by
  fin_cases i <;> fin_cases j <;> rfl

theorem Slots.ext_get {x y : Slots} (h : ∀ i, x.get i = y.get i) : x = y := by
  cases x
  cases y
  exact Slots.mk.injEq .. ▸ ⟨h 0, h 1, h 2, h 3⟩

theorem mem_slotNumbers : ∀ i : Fin 4, i ∈ slotNumbers := by decide

theorem Slots.mem_held {x : Slots} {q : Nat} : q ∈ x.held ↔ ∃ i, x.get i = some q := by
  simp [Slots.held, List.mem_filterMap, mem_slotNumbers]

/-- No two slots hold one sequence. -/
def Slots.Distinct (x : Slots) : Prop := ∀ i j q, x.get i = some q → x.get j = some q → i = j

theorem Slots.nodup_held_iff (x : Slots) : x.held.Nodup ↔ x.Distinct := by
  have order : slotNumbers.Pairwise (· < ·) := by decide
  unfold Slots.held List.Nodup Slots.Distinct
  rw [List.pairwise_filterMap]
  constructor
  · intro h i j q hi hj
    by_contra apart
    have symmetric : Std.Symm fun a b => ∀ p, x.get a = some p → ∀ p', x.get b = some p' → p ≠ p' :=
      ⟨fun a b k p hp p' hp' => (k p' hp' p hp).symm⟩
    exact h.forall (mem_slotNumbers i) (mem_slotNumbers j) apart q hi q hj rfl
  · refine fun h => order.imp fun {i j} lt q hi p hj e => ?_
    exact absurd (h i j q hi (e ▸ hj)) (ne_of_lt lt)

/-- What a search for a sequence finds: the slot that holds it, or none when no slot does. -/
theorem Slots.slotOf_cases (x : Slots) (q : Nat) :
    (∃ i, x.slotOf q = some i ∧ x.get i = some q) ∨ (x.slotOf q = none ∧ ∀ i, x.get i ≠ some q) := by
  unfold Slots.slotOf
  cases h : slotNumbers.find? fun i => x.get i == some q with
  | some i => exact .inl ⟨i, rfl, by simpa using List.find?_some h⟩
  | none => exact .inr ⟨rfl, fun i => by simpa using List.find?_eq_none.1 h i (mem_slotNumbers i)⟩

/-- The slots that `out` names, emptied. -/
def Slots.without (x : Slots) (out : Fin 4 → Bool) : Slots :=
  { s0 := if out 0 then none else x.s0, s1 := if out 1 then none else x.s1,
    s2 := if out 2 then none else x.s2, s3 := if out 3 then none else x.s3 }

theorem Slots.get_without (x : Slots) (out : Fin 4 → Bool) (i : Fin 4) :
    (x.without out).get i = if out i then none else x.get i := by
  fin_cases i <;> rfl

/-! ## Withdrawals one after another -/

/-- Two withdrawals reach the current post as one of both does (R83). -/
theorem Current.reach_reach (f g : PostBody → Bool) (c : Current) :
    (Current.reach f c).bind (Current.reach g) = Current.reach (fun b => f b || g b) c := by
  obtain ⟨post, losses, attempt, dropAtLoss⟩ := c
  cases hf : f post.body <;> cases hg : g post.body <;> cases attempt <;> simp [Current.reach, hf, hg]

theorem Current.reach_never (c : Option Current) : c.bind (Current.reach fun _ => false) = c := by
  cases c <;> rfl

/-! ## The release of records -/

/-- A record of the released `l` took slot `i` as SLOTTED (R68). -/
def Slots.emptiedBy (x : Slots) (l : List (Nat × AlertState)) (i : Fin 4) : Bool :=
  (x.get i).any fun q => l.any fun a => a.1 == q && a.2 == .slotted

/-- The post is the ALERT of a slot that the release of `l` empties. -/
def Slots.alertEmptiedBy (x : Slots) (l : List (Nat × AlertState)) (b : PostBody) : Bool :=
  slotNumbers.any fun i => x.emptiedBy l i && isAlertOf i b

/-- A record in this alert state is counted when it is released (R68). -/
def AlertState.leaves (a : AlertState) : Bool := a == .slotted || a == .pending

/-- The main domain once the alert unit has let go of the released records `l` (R68, R83). -/
def Main.released (m : Main) (l : List (Nat × AlertState)) : Main :=
  { m with
    slots := m.slots.without (m.slots.emptiedBy l)
    alertsReleased := m.alertsReleased + BitVec.ofNat 32 (l.countP fun a => a.2.leaves)
    queue := m.queue.filter fun p => !m.slots.alertEmptiedBy l p.body
    current := m.current.bind (Current.reach (m.slots.alertEmptiedBy l)) }

theorem Slots.emptiedBy_iff {x : Slots} {l : List (Nat × AlertState)} {i : Fin 4} :
    x.emptiedBy l i = true ↔ ∃ q, x.get i = some q ∧ (q, .slotted) ∈ l := by
  simp only [Slots.emptiedBy, Option.any_eq_true, List.any_eq_true, Bool.and_eq_true, beq_iff_eq]
  constructor
  · rintro ⟨q, hq, ⟨p, a⟩, mem, rfl, rfl⟩
    exact ⟨p, hq, mem⟩
  · exact fun ⟨q, hq, mem⟩ => ⟨q, hq, _, mem, rfl, rfl⟩

theorem Slots.alertEmptiedBy_iff {x : Slots} {l : List (Nat × AlertState)} {b : PostBody} :
    x.alertEmptiedBy l b = true ↔ ∃ i, x.emptiedBy l i = true ∧ isAlertOf i b = true := by
  simp [Slots.alertEmptiedBy, mem_slotNumbers]

theorem Slots.without_distinct {x : Slots} (h : x.Distinct) (out : Fin 4 → Bool) : (x.without out).Distinct := by
  have kept {k : Fin 4} {q : Nat} (hk : (x.without out).get k = some q) : x.get k = some q := by
    rw [Slots.get_without] at hk
    split at hk
    · cases hk
    · exact hk
  exact fun i j q hi hj => h i j q (kept hi) (kept hj)

/-- A slot emptied by two releases, one after the other, is emptied by the release of both. -/
theorem Slots.emptiedBy_append (x : Slots) (l l' : List (Nat × AlertState)) (i : Fin 4) :
    x.emptiedBy (l ++ l') i = (x.emptiedBy l i || (x.without (x.emptiedBy l)).emptiedBy l' i) := by
  rw [Bool.eq_iff_iff, Bool.or_eq_true]
  simp only [Slots.emptiedBy_iff, Slots.get_without]
  by_cases emptied : x.emptiedBy l i = true
  · obtain ⟨q, hq, mem⟩ := Slots.emptiedBy_iff.1 emptied
    exact iff_of_true ⟨q, hq, List.mem_append.2 (.inl mem)⟩ (.inl ⟨q, hq, mem⟩)
  · have kept : ¬ ∃ q, x.get i = some q ∧ (q, AlertState.slotted) ∈ l := fun k => emptied (Slots.emptiedBy_iff.2 k)
    simp only [kept, false_or, List.mem_append]
    exact ⟨fun ⟨q, hq, mem⟩ => ⟨q, hq, mem.resolve_left fun k => kept ⟨q, hq, k⟩⟩,
      fun ⟨q, hq, mem⟩ => ⟨q, hq, .inr mem⟩⟩

theorem Slots.alertEmptiedBy_append (x : Slots) (l l' : List (Nat × AlertState)) (b : PostBody) :
    x.alertEmptiedBy (l ++ l') b = (x.alertEmptiedBy l b || (x.without (x.emptiedBy l)).alertEmptiedBy l' b) := by
  rw [Bool.eq_iff_iff, Bool.or_eq_true]
  simp only [Slots.alertEmptiedBy_iff, Slots.emptiedBy_append, Bool.or_eq_true, or_and_right, exists_or]

theorem Main.released_nil (m : Main) : m.released [] = m := by
  have none (i : Fin 4) : m.slots.emptiedBy [] i = false := by
    cases h : m.slots.get i <;> simp [Slots.emptiedBy, h]
  have slots : m.slots.without (m.slots.emptiedBy []) = m.slots :=
    Slots.ext_get fun i => by rw [Slots.get_without, none]; rfl
  have alerts : m.slots.alertEmptiedBy [] = fun _ => false := by
    funext b
    simp [Slots.alertEmptiedBy, none]
  simp [Main.released, slots, alerts, Current.reach_never]

theorem Main.released_released (m : Main) (l l' : List (Nat × AlertState)) :
    (m.released l).released l' = m.released (l ++ l') := by
  have slots : (m.slots.without (m.slots.emptiedBy l)).without
      ((m.slots.without (m.slots.emptiedBy l)).emptiedBy l') = m.slots.without (m.slots.emptiedBy (l ++ l')) := by
    refine Slots.ext_get fun i => ?_
    simp only [Slots.get_without, Slots.emptiedBy_append]
    grind
  have alerts := funext (m.slots.alertEmptiedBy_append l l')
  simp only [Main.released, slots, alerts, List.filter_filter, Option.bind_assoc, Current.reach_reach,
    List.countP_append, BitVec.ofNat_add, BitVec.add_assoc, Bool.not_or, Bool.and_comm]

/-- The release of one record on the main domain (R68). -/
theorem State.releaseAlert_main (s : State) (h : s.main.slots.Distinct) (q : Nat) (a : AlertState) :
    (s.releaseAlert q a).main = s.main.released [(q, a)] := by
  have emptied (i : Fin 4) : s.main.slots.emptiedBy [(q, a)] i =
      (decide (s.main.slots.get i = some q) && a == .slotted) := by
    rw [Bool.eq_iff_iff, Slots.emptiedBy_iff]
    simp [eq_comm (a := a)]
  have untouched (none : ∀ i, s.main.slots.emptiedBy [(q, a)] i = false) :
      s.main.released [(q, a)] = { s.main with
        alertsReleased := s.main.alertsReleased + BitVec.ofNat 32 ([(q, a)].countP fun a => a.2.leaves) } := by
    have slots : s.main.slots.without (s.main.slots.emptiedBy [(q, a)]) = s.main.slots :=
      Slots.ext_get fun i => by rw [Slots.get_without, none]; rfl
    have alerts : s.main.slots.alertEmptiedBy [(q, a)] = fun _ => false := by
      funext b
      simp [Slots.alertEmptiedBy, none]
    simp [Main.released, slots, alerts, Current.reach_never]
  cases a with
  | none | pending | acked =>
    rw [untouched fun i => by simp [emptied]]
    simp [State.releaseAlert, AlertState.leaves]
  | slotted =>
    rcases s.main.slots.slotOf_cases q with ⟨i, found, hi⟩ | ⟨found, absent⟩
    · have only (j : Fin 4) : s.main.slots.emptiedBy [(q, .slotted)] j = decide (j = i) := by
        have names : s.main.slots.get j = some q ↔ j = i := ⟨fun hj => h j i q hj hi, fun e => e ▸ hi⟩
        simp [emptied, names]
      have slots : s.main.slots.without (s.main.slots.emptiedBy [(q, .slotted)]) = s.main.slots.set i none :=
        Slots.ext_get fun j => by simp [Slots.get_without, Slots.get_set, only]
      have alerts : s.main.slots.alertEmptiedBy [(q, .slotted)] = isAlertOf i := by
        funext b
        rw [Bool.eq_iff_iff, Slots.alertEmptiedBy_iff]
        simp [only]
      simp [State.releaseAlert, found, Main.released, slots, alerts, AlertState.leaves]
    · rw [untouched fun i => by simp [emptied, absent]]
      simp [State.releaseAlert, found, AlertState.leaves]

/-- The release of records one after another on the main domain (R68, R173). -/
theorem State.releaseAlerts_main (s : State) (h : s.main.slots.Distinct) (l : List (Nat × AlertState)) :
    (l.foldl (fun u x => u.releaseAlert x.1 x.2) s).main = s.main.released l := by
  induction l generalizing s with
  | nil => exact s.main.released_nil.symm
  | cons a l ih =>
    have one := s.releaseAlert_main h a.1 a.2
    rw [List.foldl_cons, ih _ (by rw [one]; exact Slots.without_distinct h _), one, Main.released_released]
    rfl

/-- A release reaches the alert unit, the queue and the transmitter alone. -/
theorem State.releaseAlert_frame (s : State) (q : Nat) (a : AlertState) :
    s.releaseAlert q a = { s with main := { s.main with
      slots := (s.releaseAlert q a).main.slots
      alertsReleased := s.main.alertsReleased + BitVec.ofNat 32 (if a.leaves then 1 else 0)
      queue := (s.releaseAlert q a).main.queue, current := (s.releaseAlert q a).main.current } } := by
  cases a with
  | slotted =>
    simp only [State.releaseAlert]
    split <;> rfl
  | none | pending | acked => simp [State.releaseAlert, AlertState.leaves]

theorem State.releaseAlerts_frame (s : State) (l : List (Nat × AlertState)) :
    l.foldl (fun u x => u.releaseAlert x.1 x.2) s = { s with main := { s.main with
      slots := (l.foldl (fun u x => u.releaseAlert x.1 x.2) s).main.slots
      alertsReleased := s.main.alertsReleased + BitVec.ofNat 32 (l.countP fun a => a.2.leaves)
      queue := (l.foldl (fun u x => u.releaseAlert x.1 x.2) s).main.queue
      current := (l.foldl (fun u x => u.releaseAlert x.1 x.2) s).main.current } } := by
  induction l generalizing s with
  | nil => simp
  | cons a l ih =>
    rw [List.foldl_cons, ih, s.releaseAlert_frame a.1 a.2]
    simp only [List.countP_cons, BitVec.ofNat_add, BitVec.add_assoc]
    rw [BitVec.add_comm (BitVec.ofNat 32 (if a.2.leaves = true then 1 else 0))]

end Sys2Proof.Machine
end

section
/-! # COMMIT: the release of batch members, and what the alert unit lets go (R68, R173, R174) -/

namespace Sys2Proof.Machine

/-- The state once a COMMIT of `v` has released members of the batch, before the next batch is formed. -/
def State.committed (s : State) (v : Nat) : State :=
  (s.releasedAlerts v).foldl (fun w x => w.releaseAlert x.1 x.2) (s.write (Retained.commit s.main.drain.batch v))

theorem State.commitDrain_of_awaited {s : State} {src : Nat} (v : Nat) (state : s.main.drain.state = .awaitCommit)
    (dock : s.main.drain.dock = some src) :
    s.commitDrain src v =
      ((s.committed v).setDrain { (s.committed v).main.drain with
        commitWait := none, batch := [], position := 0 }).formBatch :=
  if_pos ⟨state, dock⟩

theorem State.commitDrain_ignored {s : State} {src : Nat} (v : Nat)
    (h : s.main.drain.state ≠ .awaitCommit ∨ s.main.drain.dock ≠ some src) : s.commitDrain src v = s :=
  if_neg fun ⟨state, dock⟩ => h.elim (· state) (· dock)

/-- The record leaves the log at a COMMIT of `v` (R173). -/
def Record.goesWith (batch : List Nat) (v : Nat) (x : Record) : Bool := batch.contains x.seq && decide (x.seq ≤ v)

theorem State.releasedAlerts_eq (s : State) (v : Nat) :
    s.releasedAlerts v =
      (s.ret.log.filter (Record.goesWith s.main.drain.batch v)).map fun x => (x.seq, x.alert) := by
  have released (x : Record) : (s.releasedBy v).contains x.seq = x.goesWith s.main.drain.batch v := by
    rw [Bool.eq_iff_iff]
    simp [State.releasedBy, Record.goesWith]
  simp only [State.releasedAlerts, released]

theorem State.committed_frame (s : State) (v : Nat) :
    s.committed v = { s with
      journal := s.ret :: s.journal
      ret := s.ret.commit s.main.drain.batch v
      main := { s.main with
        slots := (s.committed v).main.slots
        alertsReleased := s.main.alertsReleased + BitVec.ofNat 32
          (((s.ret.log.filter (Record.goesWith s.main.drain.batch v)).filter fun x =>
            x.alert == .slotted || x.alert == .pending).length)
        queue := (s.committed v).main.queue, current := (s.committed v).main.current } } := by
  have count : (s.releasedAlerts v).countP (fun a => a.2.leaves) =
      ((s.ret.log.filter (Record.goesWith s.main.drain.batch v)).filter fun x =>
        x.alert == .slotted || x.alert == .pending).length := by
    rw [State.releasedAlerts_eq, List.countP_map, List.countP_eq_length_filter]
    rfl
  rw [← count]
  exact State.releaseAlerts_frame _ _

theorem State.committed_main (s : State) (v : Nat) (h : s.main.slots.Distinct) :
    (s.committed v).main = s.main.released (s.releasedAlerts v) :=
  State.releaseAlerts_main (s.write (Retained.commit s.main.drain.batch v)) h _

/-- A released record empties the slot that holds its sequence when it is SLOTTED (R68). -/
theorem Slots.emptiedBy_releasedAlerts (s : State) (v : Nat) (x : Slots) (i : Fin 4) :
    x.emptiedBy (s.releasedAlerts v) i = (x.get i).any fun q =>
      (s.ret.log.filter (Record.goesWith s.main.drain.batch v)).any fun y => y.seq == q && y.alert == .slotted := by
  simp only [Slots.emptiedBy, State.releasedAlerts_eq, List.any_map]
  rfl

/-- Settles O40: the COMMIT acts on the state that has heard its post, which has the slots, the posts and the log of
the state before. -/
theorem commitReleasesBatchMembers : Obligations.CommitReleasesBatchMembers := by
  unfold Obligations.CommitReleasesBatchMembers
  intro src v s takes u d freed
  have heard : u = _ := s.hearing_eq src .dock
  have drain : u.main.drain = d := by rw [heard]
  have ret : u.ret = s.ret := s.hearing_ret src .dock
  have acts : exec (.commit src v) s = .next (u.commitDrain src.toNat v.toNat) :=
    congrArg Host.Outcome.next (s.hearAddressed_of_takesFrom src .dock _ takes)
  refine ⟨fun other => ?_, fun state dock => ⟨u.committed v.toNat, ?_⟩⟩
  · rw [acts, State.commitDrain_ignored _ (drain.symm ▸ other)]
  have frame := u.committed_frame v.toNat
  rw [drain, ret] at frame
  refine ⟨?_, ?_, ?_, ?_, ?_, ?_, ?_, fun nodup => ?_, ?_, ?_, ?_, ?_⟩
  · rw [acts, State.commitDrain_of_awaited _ (drain.symm ▸ state) (drain.symm ▸ dock)]
  · rw [frame, heard]
  · rw [frame]
    rfl
  · rw [frame, heard]
    rfl
  · rw [frame]
    exact drain
  · rw [frame]
    exact s.hearing_contacts src .dock
  · rw [frame]
  · have slots : u.main.slots = s.main.slots := by rw [heard]
    have queue : u.main.queue = s.main.queue := s.hearing_queue src .dock
    have current : u.main.current = s.main.current := by rw [heard]
    have main := u.committed_main v.toNat (slots.symm ▸ s.main.slots.nodup_held_iff.1 nodup)
    have emptied := Slots.emptiedBy_releasedAlerts u v.toNat s.main.slots
    rw [drain, ret] at emptied
    have alerts : s.main.slots.alertEmptiedBy (u.releasedAlerts v.toNat) = fun b =>
        slotNumbers.any fun i => s.main.slots.emptiedBy (u.releasedAlerts v.toNat) i && isAlertOf i b := rfl
    rw [main, Main.released, slots, queue, current]
    simp only [Slots.get_without, alerts, emptied]
    exact ⟨fun _ => rfl, rfl⟩
  · rw [frame, heard]
  · rw [frame, heard]
  · rw [frame]
  · rw [frame, heard]

end Sys2Proof.Machine
end

section
/-! # The slots beside the ALERT-STATE of the records: the operations that move neither (R61, R63)

Most operations leave the slots, and SEQUENCE and ALERT-STATE of every record, as they are. That is said here once for
each, as an equation that `simp` composes, so that R63 is left to be proved for the few operations that do more. -/

namespace Sys2Proof.Machine

/-- What R63 reads of a record. -/
def Record.alerting (x : Record) : Nat × AlertState := (x.seq, x.alert)

/-- What R63 reads of a state: the slots, and of each record its SEQUENCE and its ALERT-STATE. -/
structure AlertView where
  powered : Bool
  slots : Slots
  alerts : List (Nat × AlertState)
  nextSeq : Nat

def State.alertView (s : State) : AlertView :=
  { powered := s.powered, slots := s.main.slots, alerts := s.ret.log.map Record.alerting, nextSeq := s.ret.nextSeq }

theorem State.alertView_congr {s t : State} (powered : t.powered = s.powered) (slots : t.main.slots = s.main.slots)
    (alerts : t.ret.log.map Record.alerting = s.ret.log.map Record.alerting) (nextSeq : t.ret.nextSeq = s.ret.nextSeq) :
    t.alertView = s.alertView := by
  simp only [State.alertView, powered, slots, alerts, nextSeq]

/-- A change outside the retained domain that leaves the slots alone. -/
theorem State.alertView_of_ret {s t : State} (powered : t.powered = s.powered) (slots : t.main.slots = s.main.slots)
    (ret : t.ret = s.ret) : t.alertView = s.alertView :=
  State.alertView_congr powered slots (by rw [ret]) (by rw [ret])

/-- An update of records that moves neither SEQUENCE nor ALERT-STATE. -/
theorem map_alerting (f : Record → Record) (c : Record → Prop) [DecidablePred c]
    (hf : ∀ x, (f x).alerting = x.alerting) (l : List Record) :
    (l.map fun x => if c x then f x else x).map Record.alerting = l.map Record.alerting := by
  rw [List.map_map]
  refine List.map_congr_left fun x _ => ?_
  simp only [Function.comp]
  split
  · exact hf x
  · rfl

section

variable (s : State)

/-! ## Updates of the state -/

@[simp] theorem State.begin_alertView : s.begin.alertView = s.alertView := rfl
@[simp] theorem State.setContact_alertView (c : Contact) : (s.setContact c).alertView = s.alertView := rfl
@[simp] theorem State.setDrain_alertView (d : Drain) : (s.setDrain d).alertView = s.alertView := rfl
@[simp] theorem State.setCurrent_alertView (c : Option Current) : (s.setCurrent c).alertView = s.alertView := rfl
@[simp] theorem State.setLine_alertView (l : LinkLine) : (s.setLine l).alertView = s.alertView := rfl
@[simp] theorem State.stopHearing_alertView : s.stopHearing.alertView = s.alertView := rfl
@[simp] theorem State.discardStretch_alertView : s.discardStretch.alertView = s.alertView := rfl
@[simp] theorem State.hearPeer_alertView (src : Nat) (r : Role) : (s.hearPeer src r).alertView = s.alertView := rfl
@[simp] theorem State.enterMute_alertView : s.enterMute.alertView = s.alertView := rfl
@[simp] theorem State.silencePeer_alertView (n : Nat) : (s.silencePeer n).alertView = s.alertView := rfl
@[simp] theorem State.flushPorts_alertView : s.flushPorts.alertView = s.alertView := rfl
@[simp] theorem State.setPark_alertView (p : Park) : (s.setPark p).alertView = s.alertView := rfl
@[simp] theorem State.restartWalk_alertView : s.restartWalk.alertView = s.alertView := rfl
@[simp] theorem State.setIgn_alertView (b : Bool) : (s.setIgn b).alertView = s.alertView := rfl
@[simp] theorem State.setSense_alertView (mv : Nat) : (s.setSense mv).alertView = s.alertView := rfl

@[simp] theorem State.setPort_alertView (p : Port) (x : PortState) : (s.setPort p x).alertView = s.alertView := by
  cases p <;> rfl

/-- A write that leaves the log and its counter alone. -/
theorem State.write_alertView {f : Retained → Retained} (log : (f s.ret).log = s.ret.log)
    (nextSeq : (f s.ret).nextSeq = s.ret.nextSeq) : (s.write f).alertView = s.alertView :=
  State.alertView_congr rfl rfl (congrArg _ log) nextSeq

theorem State.updRecord_alertView (q : Nat) {f : Record → Record} (hf : ∀ x, (f x).alerting = x.alerting) :
    (s.write fun r => r.updRecord q f).alertView = s.alertView :=
  State.alertView_congr rfl rfl (map_alerting f (fun x => x.seq = q) hf s.ret.log) rfl

@[simp] theorem State.passTime_alertView (n : Nat) : (s.passTime n).alertView = s.alertView := by
  refine State.alertView_congr rfl ?_ ?_ ?_
  · rw [State.passTime_main]
    split <;> rfl
  all_goals
    rw [State.passTime_ret, Retained.passTime]
    split
    · split <;> rfl
    · rfl

/-! ## The shared operations -/

@[simp] theorem State.offer_alertView (p : Post) : (s.offer p).alertView = s.alertView :=
  State.alertView_of_ret (s.offer_powered p) (s.offer_slots p) (s.offer_ret p)

@[simp] theorem State.offerStatus_alertView : s.offerStatus.alertView = s.alertView :=
  State.alertView_of_ret s.offerStatus_powered (by rw [State.offerStatus_frame]) s.offerStatus_ret

@[simp] theorem State.changeEntry_alertView (m : MeterId) (f : RouteEntry → RouteEntry) :
    (s.changeEntry m f).alertView = s.alertView := by
  rcases s.changeEntry_cases m f with ⟨-, e⟩ | ⟨-, -, e⟩ <;> rw [e]
  exact s.write_alertView rfl rfl

@[simp] theorem State.changeEntryState_alertView (m : MeterId) (f : EntryState → EntryState) :
    (s.changeEntryState m f).alertView = s.alertView := s.changeEntry_alertView m _

@[simp] theorem State.markAll_alertView (m : DrainMark) (l : List Nat) : (s.markAll m l).alertView = s.alertView := by
  refine State.alertView_congr (s.markAll_powered m l) (by rw [State.markAll_main]) ?_ (by rw [State.markAll_ret])
  rw [State.markAll_ret]
  exact map_alerting (Record.withMark m) (fun x => x.seq ∈ l) (fun _ => rfl) s.ret.log

@[simp] theorem State.restartParkReturn_alertView : s.restartParkReturn.alertView = s.alertView := by
  rw [State.restartParkReturn_eq]
  rfl

/-! ## The line and the ports -/

@[simp] theorem State.lineSilent_alertView (quiet : Nat) : (s.lineSilent quiet).alertView = s.alertView := by
  rw [State.lineSilent_eq]
  split <;> rfl

@[simp] theorem State.lineActive_alertView (quiet : Nat) : (s.lineActive quiet).alertView = s.alertView := by
  rw [← s.lineSilent_alertView quiet]
  simp only [State.lineActive]
  split <;> rfl

@[simp] theorem State.postPasses_alertView : s.postPasses.alertView = s.alertView := by
  cases attempt : s.inAttempt
  · rw [State.postPasses_eq s attempt]
    split <;> rfl
  · rw [State.postPasses_inAttempt s attempt]

@[simp] theorem State.lineStretch_alertView (p : Port) (bits : List Bool) (falls : Bool) :
    (s.lineStretch p bits falls).alertView = s.alertView := by
  obtain ⟨x, e⟩ := s.lineStretch_frame p bits falls
  rw [e, State.setPort_alertView]
  rfl

/-! ## The drain engine and the transmitter -/

@[simp] theorem State.clearDrainPost_alertView : s.clearDrainPost.alertView = s.alertView := by
  obtain ⟨ret, powered, -⟩ := s.clearDrainPost_frame
  exact State.alertView_of_ret powered (by rw [State.clearDrainPost_main]; rfl) ret

@[simp] theorem State.clearBatch_alertView : s.clearBatch.alertView = s.alertView := by
  simp [State.clearBatch]

@[simp] theorem State.endDrain_alertView : s.endDrain.alertView = s.alertView := by
  unfold State.endDrain
  split <;> simp

@[simp] theorem State.offerDrainPost_alertView : s.offerDrainPost.alertView = s.alertView := by
  unfold State.offerDrainPost
  split
  · rfl
  · split <;> rfl

@[simp] theorem State.formBatch_alertView : s.formBatch.alertView = s.alertView := by
  simp only [State.formBatch]
  split <;> simp

@[simp] theorem State.openDrain_alertView (src : Nat) : (s.openDrain src).alertView = s.alertView := by
  simp only [State.openDrain, State.formBatch_alertView, State.setDrain_alertView]
  split
  · rfl
  · exact s.clearBatch_alertView

@[simp] theorem State.closeDrain_alertView (src : Nat) : (s.closeDrain src).alertView = s.alertView := by
  unfold State.closeDrain
  split
  · exact s.endDrain_alertView
  · rfl

@[simp] theorem State.clearedPostEnded_alertView : s.clearedPostEnded.alertView = s.alertView := by
  simp only [State.clearedPostEnded]
  split <;> simp

@[simp] theorem State.attemptDue_alertView (quiet : Nat) : (s.attemptDue quiet).alertView = s.alertView := by
  unfold State.attemptDue
  split
  · split <;> rfl
  · split
    · rfl
    · split <;> rfl

@[simp] theorem State.attemptAfter_alertView (quiet : Nat) : (s.attemptAfter quiet).alertView = s.alertView := by
  unfold State.attemptAfter
  split
  · rfl
  · split <;> simp

@[simp] theorem State.tellSent_alertView (c : Current) : (s.tellSent c).alertView = s.alertView := by
  unfold State.tellSent
  split
  · rfl
  · split <;> simp [State.recordTransmitted]
  · split
    · simp
    · unfold State.batchEndTransmitted
      split <;> rfl
  · rfl

@[simp] theorem State.attemptSent_alertView : s.attemptSent.alertView = s.alertView := by
  unfold State.attemptSent
  split
  · rfl
  · split <;> simp

@[simp] theorem State.attemptFailed_alertView : s.attemptFailed.alertView = s.alertView := by
  unfold State.attemptFailed
  split
  · rfl
  · split
    · rfl
    · split
      · split <;> simp
      · split
        · split
          · exact (State.endDrain_alertView _).trans rfl
          · rfl
        · rfl

/-! ## The contacts -/

@[simp] theorem State.removeContact_alertView (m : MeterId) : (s.removeContact m).alertView = s.alertView := by
  rcases s.removeContact_cases m with ⟨-, e⟩ | ⟨c, -, ⟨q, -, e⟩ | ⟨-, e⟩ | ⟨-, e⟩⟩ <;> rw [e]
  · exact s.updRecord_alertView q fun _ => rfl
  all_goals rfl

@[simp] theorem State.finishIdle_alertView (m : MeterId) : (s.finishIdle m).alertView = s.alertView := by
  unfold State.finishIdle
  split
  · rfl
  · split
    · exact s.removeContact_alertView m
    · rfl

@[simp] theorem State.clearContacts_alertView : s.clearContacts.alertView = s.alertView := by
  obtain ⟨-, -, powered, -⟩ := s.clearContacts_frame
  refine State.alertView_congr powered (by rw [State.clearContacts_main]; rfl) ?_ (by rw [State.clearContacts_ret])
  rw [State.clearContacts_ret, List.map_map]
  rfl

@[simp] theorem State.duplicateArrival_alertView (m : MeterId) (t q : Nat) :
    (s.duplicateArrival m t q).alertView = s.alertView := by
  have follows (c : Contact) (r : Retained) (x : Record) : (x.followDuplicate r c).alerting = x.alerting := by
    unfold Record.followDuplicate
    split <;> rfl
  unfold State.duplicateArrival
  split
  · rfl
  · simp only
    split
    · exact (State.updRecord_alertView _ _ (follows _ _)).trans rfl
    · rfl

@[simp] theorem State.ensureContact_alertView (b : Burst) (t : Nat) (on : Bool) :
    (s.ensureContact b t on).alertView = s.alertView := by
  have evicted : s.evict.alertView = s.alertView := by
    unfold State.evict
    split
    · rfl
    · split <;> rfl
  unfold State.ensureContact
  split
  · rfl
  · exact evicted

@[simp] theorem State.idleExpired_alertView (c : Contact) : (s.idleExpired c).alertView = s.alertView := by
  unfold State.idleExpired
  split <;> simp

/-! ## Claims -/

@[simp] theorem State.offerClaim_alertView (c : Contact) : (s.offerClaim c).alertView = s.alertView := by
  rcases s.offerClaim_cases c with ⟨-, e⟩ | ⟨-, e⟩ <;> rw [e]
  simp

@[simp] theorem State.answerAsHolder_alertView (m : MeterId) (q : Nat) (c : Claim) :
    (s.answerAsHolder m q c).alertView = s.alertView := by
  have marks (x : Record) : x.markDouble.alerting = x.alerting := by
    unfold Record.markDouble
    split <;> rfl
  unfold State.answerAsHolder
  split
  · exact s.offer_alertView _
  · have marked : (s.ret.markDouble m).log.map Record.alerting = s.ret.log.map Record.alerting ∧
        (s.ret.markDouble m).nextSeq = s.ret.nextSeq := by
      unfold Retained.markDouble
      rw [Retained.updRunningEntry_frame]
      split
      · exact ⟨map_alerting _ (fun x => x.seq = _) marks s.ret.log, rfl⟩
      · exact ⟨rfl, rfl⟩
    exact State.alertView_congr rfl rfl marked.1 marked.2

@[simp] theorem State.cede_alertView (x : Contact) (c : Claim) : (s.cede x c).alertView = s.alertView := by
  simp [State.cede]

@[simp] theorem State.claimAtEntry_alertView (m : MeterId) (c : Claim) :
    (s.claimAtEntry m c).alertView = s.alertView := by
  unfold State.claimAtEntry
  split
  · rfl
  · split
    · simp
    · split <;> simp

@[simp] theorem State.placeClaim_alertView (m : MeterId) (c : Claim) : (s.placeClaim m c).alertView = s.alertView := by
  unfold State.placeClaim
  split
  · rfl
  · split
    · simp
    · split
      · simp
      · unfold State.claimAtListening
        split
        · simp
        · split <;> simp
      · unfold State.claimAtClaiming
        split <;> simp
      · unfold State.claimAtCeded
        split <;> simp

@[simp] theorem State.placeYield_alertView (m : MeterId) (n : Nat) : (s.placeYield m n).alertView = s.alertView := by
  have entry (reached : Bool) (t : State) :
      (if reached then t.changeEntryState m (EntryState.revert n) else t).alertView = t.alertView := by
    split
    · exact t.changeEntryState_alertView _ _
    · rfl
  simp only [State.placeYield]
  split
  · rfl
  · rw [entry]
    split
    · split <;> rfl
    · rfl

@[simp] theorem State.revertPeer_alertView (n : Nat) : (s.revertPeer n).alertView = s.alertView := by
  simp only [State.revertPeer]
  split <;> rfl

/-! ## The route -/

@[simp] theorem State.routeBegun_alertView (route count : Nat) :
    (s.routeBegun route count).alertView = s.alertView := by
  have begun : (s.write (Retained.beginRoute route count)).alertView = s.alertView := s.write_alertView rfl rfl
  simp only [State.routeBegun]
  split
  · rfl
  · split
    · split <;> simp [begun]
    · rfl

@[simp] theorem State.takeEntries_alertView (fs : List EntryFields) : (s.takeEntries fs).alertView = s.alertView := by
  have one (u : State) (f : EntryFields) : (u.takeEntry f).alertView = u.alertView := by
    unfold State.takeEntry
    split <;> rfl
  unfold State.takeEntries
  induction fs generalizing s with
  | nil => rfl
  | cons f fs ih => exact (ih (s.takeEntry f)).trans (one s f)

@[simp] theorem State.routeGone_alertView (src : Nat) : (s.routeGone src).alertView = s.alertView := by
  have going : (s.write (Retained.startRoute s.main.contacts)).alertView = s.alertView := s.write_alertView rfl rfl
  unfold State.routeGone State.offerGap
  split
  · split <;> simp [going]
  · rfl

@[simp] theorem State.routeClosed_alertView : s.routeClosed.alertView = s.alertView := by
  have closing : (s.write Retained.startClosing).alertView = s.alertView := s.write_alertView rfl rfl
  unfold State.routeClosed
  split <;> simp [closing]

/-! ## Supply, park and queries -/

@[simp] theorem State.enterParked_alertView : s.enterParked.alertView = s.alertView := by
  simp [State.enterParked]

@[simp] theorem State.parkPost_alertView : s.parkPost.alertView = s.alertView := by
  unfold State.parkPost
  split <;> simp

@[simp] theorem State.ignFell_alertView : s.ignFell.alertView = s.alertView := by
  unfold State.ignFell
  split <;> simp

@[simp] theorem State.enterRun_alertView : s.enterRun.alertView = s.alertView := by
  simp [State.enterRun]

@[simp] theorem State.runPost_alertView : s.runPost.alertView = s.alertView := by
  unfold State.runPost
  split <;> simp

@[simp] theorem State.ignRose_alertView : s.ignRose.alertView = s.alertView := by
  unfold State.ignRose
  split <;> simp

@[simp] theorem State.judgeSag_alertView : s.judgeSag.alertView = s.alertView := by
  unfold State.judgeSag
  split <;> rfl

@[simp] theorem State.judgeNormal_alertView : s.judgeNormal.alertView = s.alertView := by
  unfold State.judgeNormal
  split <;> rfl

@[simp] theorem State.answerConfig_alertView (src : Nat) : (s.answerConfig src).alertView = s.alertView :=
  s.offer_alertView _

@[simp] theorem State.answerCount_alertView (src : Nat) (part : Byte) :
    (s.answerCount src part).alertView = s.alertView := by
  unfold State.answerCount
  split <;> simp

/-! ## The timers outside the contact table -/

@[simp] theorem State.statusTimerExpired_alertView : s.statusTimerExpired.alertView = s.alertView := by
  unfold State.statusTimerExpired
  split <;> simp

@[simp] theorem State.silenceExpired_alertView (n : Nat) : (s.silenceExpired n).alertView = s.alertView := by
  unfold State.silenceExpired
  split <;> simp

@[simp] theorem State.commitWaitExpired_alertView : s.commitWaitExpired.alertView = s.alertView := by
  unfold State.commitWaitExpired
  split <;> simp

@[simp] theorem State.wakeSettled_alertView : s.wakeSettled.alertView = s.alertView := by
  unfold State.wakeSettled
  split
  · rfl
  · rename_i left _
    exact (State.offerStatus_alertView _).trans (s.passTime_alertView left)

@[simp] theorem State.parkReturnExpired_alertView : s.parkReturnExpired.alertView = s.alertView := by
  unfold State.parkReturnExpired
  split <;> simp

end

end Sys2Proof.Machine
end

section
/-! # The occupied slots name the SLOTTED records: what each operation leaves of R63 -/

namespace Sys2Proof.Machine

/-! ## The binding, on what it reads -/

/-- Sequences rise below the counter, the occupied slots hold distinct sequences, and these are the sequences of the
SLOTTED records (R63, R150). -/
structure AlertView.Agrees (v : AlertView) : Prop where
  rising : (v.alerts.map Prod.fst).Pairwise (· < ·)
  below : ∀ a ∈ v.alerts, a.1 < v.nextSeq
  distinct : v.slots.Distinct
  slotted : ∀ q, (∃ i, v.slots.get i = some q) ↔ (q, .slotted) ∈ v.alerts

/-- The alert states with that of the record `q` set to `a`. -/
def markAlert (q : Nat) (a : AlertState) (l : List (Nat × AlertState)) : List (Nat × AlertState) :=
  l.map fun x => if x.1 = q then (x.1, a) else x

theorem markAlert_fst (q : Nat) (a : AlertState) (l : List (Nat × AlertState)) :
    (markAlert q a l).map Prod.fst = l.map Prod.fst := by
  rw [markAlert, List.map_map]
  refine List.map_congr_left fun x _ => ?_
  simp only [Function.comp]
  split <;> rfl

theorem mem_markAlert {q p : Nat} {a b : AlertState} {l : List (Nat × AlertState)} :
    (p, b) ∈ markAlert q a l ↔ (p ≠ q ∧ (p, b) ∈ l) ∨ (p = q ∧ b = a ∧ ∃ c, (q, c) ∈ l) := by
  simp only [markAlert, List.mem_map]
  constructor
  · rintro ⟨⟨r, c⟩, mem, e⟩
    dsimp only at e
    split at e
    · rename_i hr
      obtain ⟨rfl, rfl⟩ := Prod.mk.inj e
      exact .inr ⟨hr, rfl, c, hr ▸ mem⟩
    · rename_i hr
      obtain ⟨rfl, rfl⟩ := Prod.mk.inj e
      exact .inl ⟨hr, mem⟩
  · rintro (⟨hp, mem⟩ | ⟨rfl, rfl, c, mem⟩)
    · exact ⟨(p, b), mem, if_neg hp⟩
    · exact ⟨(p, c), mem, if_pos rfl⟩

theorem Retained.withAlert_alerting (r : Retained) (q : Nat) (a : AlertState) :
    (r.updRecord q (Record.withAlert a)).log.map Record.alerting = markAlert q a (r.log.map Record.alerting) := by
  simp only [Retained.updRecord, markAlert, List.map_map]
  refine List.map_congr_left fun x _ => ?_
  by_cases found : x.seq = q
  · simp [Record.alerting, Record.withAlert, found]
  · simp [Record.alerting, found]

namespace AlertView.Agrees

variable {v : AlertView} (h : v.Agrees)
include h

/-- A record is in one alert state. -/
theorem unique {q : Nat} {a b : AlertState} (ha : (q, a) ∈ v.alerts) (hb : (q, b) ∈ v.alerts) : a = b := by
  have nodup : (v.alerts.map Prod.fst).Nodup := h.rising.imp fun k => Nat.ne_of_lt k
  exact congrArg Prod.snd (List.inj_on_of_nodup_map nodup ha hb rfl)

theorem marked_below (q : Nat) (a : AlertState) : ∀ x ∈ markAlert q a v.alerts, x.1 < v.nextSeq := by
  intro x hx
  obtain ⟨y, hy, e⟩ := List.mem_map.1 (markAlert_fst q a v.alerts ▸ List.mem_map_of_mem hx : x.1 ∈ _)
  exact e ▸ h.below y hy

/-- A record that is not SLOTTED moves between the other alert states (R62). -/
theorem move {q : Nat} {a b : AlertState} (mem : (q, b) ∈ v.alerts) (hb : b ≠ .slotted) (ha : a ≠ .slotted) :
    { v with alerts := markAlert q a v.alerts : AlertView }.Agrees where
  rising := markAlert_fst q a v.alerts ▸ h.rising
  below := h.marked_below q a
  distinct := h.distinct
  slotted := fun p => by
    rw [h.slotted p, mem_markAlert]
    refine ⟨fun k => .inl ⟨?_, k⟩, ?_⟩
    · rintro rfl
      exact hb (h.unique mem k)
    · rintro (⟨-, k⟩ | ⟨-, e, -⟩)
      · exact k
      · exact absurd e.symm ha

/-- A PENDING record takes an empty slot and becomes SLOTTED (R64). -/
theorem promote {q : Nat} {i : Fin 4} (mem : (q, .pending) ∈ v.alerts) (empty : v.slots.get i = none) :
    { v with slots := v.slots.set i (some q), alerts := markAlert q .slotted v.alerts : AlertView }.Agrees := by
  have unheld (j : Fin 4) : v.slots.get j ≠ some q := fun hj =>
    AlertState.noConfusion (h.unique mem ((h.slotted q).1 ⟨j, hj⟩))
  have get (j : Fin 4) (p : Nat) : (v.slots.set i (some q)).get j = some p ↔
      (j = i ∧ p = q) ∨ (p ≠ q ∧ v.slots.get j = some p) := by
    rw [Slots.get_set]
    split
    · rename_i hj
      subst hj
      simp [empty, eq_comm]
    · rename_i hj
      simp only [hj, false_and, false_or]
      exact ⟨fun k => ⟨fun e => unheld j (e ▸ k), k⟩, fun ⟨_, k⟩ => k⟩
  refine ⟨markAlert_fst q _ v.alerts ▸ h.rising, h.marked_below q _, fun j k p hj hk => ?_, fun p => ?_⟩
  · rcases (get j p).1 hj with ⟨rfl, rfl⟩ | ⟨ne, hj⟩
    · rcases (get k p).1 hk with ⟨rfl, -⟩ | ⟨ne, -⟩
      · rfl
      · exact absurd rfl ne
    · rcases (get k p).1 hk with ⟨-, e⟩ | ⟨-, hk⟩
      · exact absurd e ne
      · exact h.distinct j k p hj hk
  · have known : ∃ c, (q, c) ∈ v.alerts := ⟨_, mem⟩
    simp only [get, mem_markAlert, exists_or, exists_and_right, exists_eq, exists_and_left, h.slotted, known, true_and,
      and_true]
    exact or_comm

/-- The record of a slot leaves it for an alert state other than SLOTTED (R67). -/
theorem leave {q : Nat} {i : Fin 4} {a : AlertState} (holds : v.slots.get i = some q) (ha : a ≠ .slotted) :
    { v with slots := v.slots.set i none, alerts := markAlert q a v.alerts : AlertView }.Agrees := by
  have get (j : Fin 4) (p : Nat) : (v.slots.set i none).get j = some p ↔ p ≠ q ∧ v.slots.get j = some p := by
    rw [Slots.get_set]
    split
    · rename_i hj
      subst hj
      simp [holds, eq_comm]
    · rename_i hj
      refine ⟨fun k => ⟨?_, k⟩, fun ⟨_, k⟩ => k⟩
      rintro rfl
      exact hj (h.distinct j i p k holds)
  refine ⟨markAlert_fst q a v.alerts ▸ h.rising, h.marked_below q a, fun j k p hj hk => ?_, fun p => ?_⟩
  · exact h.distinct j k p ((get j p).1 hj).2 ((get k p).1 hk).2
  · simp only [get, mem_markAlert, exists_and_left, h.slotted]
    refine ⟨.inl, ?_⟩
    rintro (k | ⟨-, e, -⟩)
    · exact k
    · exact absurd e.symm ha

/-- A record joins the log outside the alert unit (R61, R150). -/
theorem append :
    { v with alerts := v.alerts ++ [(v.nextSeq, .none)], nextSeq := v.nextSeq + 1 : AlertView }.Agrees where
  rising := by
    simp only [List.map_append, List.pairwise_append, List.map_cons, List.map_nil]
    refine ⟨h.rising, List.pairwise_singleton _ _, fun p hp q hq => ?_⟩
    obtain ⟨a, ha, rfl⟩ := List.mem_map.1 hp
    rw [List.mem_singleton.1 hq]
    exact h.below a ha
  below := fun a ha => by
    rcases List.mem_append.1 ha with mem | new
    · exact Nat.lt_succ_of_lt (h.below a mem)
    · rw [List.mem_singleton.1 new]
      exact Nat.lt_succ_self _
  distinct := h.distinct
  slotted := fun q => by simp [h.slotted q]

/-- Records leave the log, and those of them that were SLOTTED leave their slots (R68). -/
theorem release (goes : Nat → Bool) {l : List (Nat × AlertState)}
    (released : ∀ q, (q, .slotted) ∈ l ↔ goes q = true ∧ (q, .slotted) ∈ v.alerts) :
    { v with slots := v.slots.without (v.slots.emptiedBy l),
             alerts := v.alerts.filter fun a => !goes a.1 : AlertView }.Agrees where
  rising := h.rising.sublist (List.filter_sublist.map _)
  below := fun a ha => h.below a (List.mem_filter.1 ha).1
  distinct := Slots.without_distinct h.distinct _
  slotted := fun q => by
    have get (i : Fin 4) : (v.slots.without (v.slots.emptiedBy l)).get i = some q ↔
        v.slots.get i = some q ∧ (q, AlertState.slotted) ∉ l := by
      rw [Slots.get_without]
      split
      · rename_i emptied
        obtain ⟨p, hp, mem⟩ := Slots.emptiedBy_iff.1 emptied
        refine iff_of_false nofun fun ⟨hq, apart⟩ => apart ?_
        rw [hp] at hq
        exact Option.some.inj hq ▸ mem
      · rename_i kept
        exact ⟨fun hq => ⟨hq, fun mem => kept (Slots.emptiedBy_iff.2 ⟨q, hq, mem⟩)⟩, fun ⟨hq, _⟩ => hq⟩
    simp only [get, exists_and_right, h.slotted q, released q, List.mem_filter, Bool.not_eq_true']
    cases goes q <;> simp

end AlertView.Agrees

/-! ## The binding of a state -/

/-- The slots and the log agree, while the part is powered. -/
def State.SlotsAgree (s : State) : Prop := s.powered = true → s.alertView.Agrees

theorem State.mem_alerts_iff {s : State} {q : Nat} {a : AlertState} :
    (q, a) ∈ s.alertView.alerts ↔ ∃ x ∈ s.ret.log, x.seq = q ∧ x.alert = a := by
  simp [State.alertView, Record.alerting, List.mem_map]

theorem State.SlotsAgree.slotsNameSlotted {s : State} (h : s.SlotsAgree) : s.SlotsNameSlotted := by
  intro on
  have agrees := h on
  refine ⟨s.main.slots.nodup_held_iff.2 agrees.distinct, fun q hq => ?_, fun x hx slotted => ?_⟩
  · exact State.mem_alerts_iff.1 ((agrees.slotted q).1 (Slots.mem_held.1 hq))
  · exact Slots.mem_held.2 ((agrees.slotted x.seq).2 (State.mem_alerts_iff.2 ⟨x, hx, rfl, slotted⟩))

theorem State.slotsAgree_of_sound {s : State} (order : s.ret.LogInOrder) (bound : s.SlotsNameSlotted) :
    s.SlotsAgree := by
  intro on
  obtain ⟨rising, below, -⟩ := order
  obtain ⟨nodup, named, slotted⟩ := bound on
  refine ⟨?_, ?_, s.main.slots.nodup_held_iff.1 nodup, fun q => ?_⟩
  · simpa [State.alertView, Record.alerting, Function.comp_def] using rising
  · exact List.forall_mem_map.2 fun x hx => (below x hx).2
  · rw [State.mem_alerts_iff]
    exact ⟨fun held => named q (Slots.mem_held.2 held), fun ⟨x, hx, e, a⟩ => Slots.mem_held.1 (e ▸ slotted x hx a)⟩

namespace State.SlotsAgree

variable {s t : State}

/-- An operation that moves nothing that the binding reads. -/
theorem same (h : s.SlotsAgree) (e : t.alertView = s.alertView) : t.SlotsAgree := by
  have powered : t.powered = s.powered := congrArg AlertView.powered e
  unfold State.SlotsAgree
  rwa [e, powered]

/-! ## Records raised and appended -/

theorem raise (q : Nat) (h : s.SlotsAgree) : (s.raise q).SlotsAgree := by
  unfold State.raise
  split
  · exact h
  · rename_i x found
    split
    · split
      · rename_i _ goes
        obtain ⟨-, none, -⟩ := goes
        intro on
        have seq : x.seq = q := by simpa using List.find?_some found
        have mem : (q, AlertState.none) ∈ s.alertView.alerts :=
          State.mem_alerts_iff.2 ⟨x, List.mem_of_find?_eq_some found, seq, none⟩
        have moved := (h on).move mem nofun (a := .pending) nofun
        rwa [State.alertView, ← s.ret.withAlert_alerting] at moved
      · exact h
    · exact h

/-- A write that appends a record, or leaves the log as it is. -/
theorem write_append {f : Retained → Retained} (h : s.SlotsAgree)
    (hf : ((f s.ret).log = s.ret.log ∧ (f s.ret).nextSeq = s.ret.nextSeq) ∨
      ∃ x : Record, x.alerting = (s.ret.nextSeq, .none) ∧ (f s.ret).log = s.ret.log ++ [x] ∧
        (f s.ret).nextSeq = s.ret.nextSeq + 1) : (s.write f).SlotsAgree := by
  rcases hf with ⟨log, nextSeq⟩ | ⟨x, fresh, log, nextSeq⟩
  · exact h.same (s.write_alertView log nextSeq)
  · intro on
    have view : (s.write f).alertView = { s.alertView with
        alerts := s.alertView.alerts ++ [(s.ret.nextSeq, .none)], nextSeq := s.ret.nextSeq + 1 } := by
      simp only [State.alertView, State.write_ret, log, nextSeq, List.map_append, List.map_cons, List.map_nil, fresh]
      rfl
    rw [view]
    exact (h on).append

theorem enterHeld (c : Contact) (h : s.SlotsAgree) : (s.enterHeld c).SlotsAgree := by
  have opened (c : Contact) : (s.write (Retained.openRecord c)).SlotsAgree :=
    h.write_append (.inr ⟨_, rfl, by rw [Retained.openRecord_eq], by rw [Retained.openRecord_eq]⟩)
  rw [State.enterHeld_eq]
  exact ((opened _).same (State.setContact_alertView _ _)).raise _

/-! ## The contacts -/

theorem attemptClaim (m : MeterId) (h : s.SlotsAgree) : (s.attemptClaim m).SlotsAgree := by
  rcases s.attemptClaim_cases m with e | ⟨c, -, -, ⟨-, e⟩ | ⟨-, ⟨k, -, e⟩ | ⟨-, -, e⟩ | ⟨-, -, e⟩⟩⟩ <;> rw [e]
  · exact h
  · exact h.same (by simp)
  · exact h.same (by simp)
  · exact h.enterHeld c
  · exact h.same (by simp)

theorem followRecord (c : Contact) (h : s.SlotsAgree) : (s.followRecord c).SlotsAgree := by
  have follows (r : Retained) (x : Record) : (x.follow r c).alerting = x.alerting := by
    unfold Record.follow
    split <;> rfl
  unfold State.followRecord
  split
  · rename_i q _
    have updated : (s.write (Retained.updateRecord c q)).alertView = s.alertView := by
      refine State.alertView_congr rfl rfl ?_ ?_ <;>
        rw [State.write_ret, Retained.updateRecord, Retained.updRunningEntry_frame]
      · exact map_alerting _ (fun x => x.seq = q) (follows s.ret) s.ret.log
      · rfl
    exact (h.same updated).raise q
  · exact h

theorem countedArrival (x : Arrival) (h : s.SlotsAgree) : (s.countedArrival x).SlotsAgree := by
  unfold State.countedArrival
  split
  · exact h
  · rename_i c _
    have followed : ((s.setContact (s.recordArrival c x)).followRecord (s.recordArrival c x)).SlotsAgree :=
      (h.same (State.setContact_alertView s _)).followRecord _
    simp only [State.judgeEligibility]
    split
    · exact followed.attemptClaim _
    · split
      · exact (followed.same (State.setContact_alertView _ _)).attemptClaim _
      · exact followed

theorem takeFrom (p : Port) (h : s.SlotsAgree) : (s.takeFrom p).SlotsAgree := by
  unfold State.takeFrom
  split
  · exact h
  · rename_i f rest _
    have counted : ((s.setPort p { s.main.port p with slots := rest }).countDisposition p
        (s.judge f).disposition).SlotsAgree := h.same (by simp [State.countDisposition])
    simp only [State.handOver]
    split
    · exact (counted.same (State.ensureContact_alertView _ _ _ _)).countedArrival _
    · exact counted.same (by simp)
    · exact counted

/-- The expiry of a timer of a contact, where its effect keeps the binding. -/
theorem contactExpiry (m : MeterId) (timer : Contact → Timer) {act : State → Contact → State}
    (acts : ∀ u c, u.SlotsAgree → (act u c).SlotsAgree) (h : s.SlotsAgree) :
    (s.contactExpiry m timer act).SlotsAgree := by
  unfold State.contactExpiry
  split
  · exact h
  · split
    · exact h
    · exact acts _ _ (h.same (by simp))

theorem settleExpired (c : Contact) (h : s.SlotsAgree) : (s.settleExpired c).SlotsAgree := by
  unfold State.settleExpired State.settleContact
  split
  · split
    · exact (h.enterHeld c).same (by simp)
    · exact h.same (by simp)
  · exact h

/-! ## The close walk -/

theorem stepWalk (h : s.SlotsAgree) : s.stepWalk.SlotsAgree := by
  have visited (i : Nat) : (s.visitIndex i).SlotsAgree := by
    unfold State.visitIndex
    split
    · exact h
    · split
      · split
        · refine h.write_append ?_
          unfold Retained.missHere
          split
          · exact .inr ⟨_, rfl, rfl, rfl⟩
          · exact .inl ⟨rfl, rfl⟩
        · exact h.write_append (.inl ⟨rfl, rfl⟩)
      · exact h
  have ended (u : State) (hu : u.SlotsAgree) : (u.write Retained.endRoute).SlotsAgree := by
    refine hu.write_append ?_
    by_cases room : u.ret.nextSeq ≤ seqMax
    · exact .inr ⟨_, rfl, by rw [Retained.endRoute, if_pos room]; rfl, by rw [Retained.endRoute, if_pos room]; rfl⟩
    · exact .inl (by rw [Retained.endRoute, if_neg room]; exact ⟨rfl, rfl⟩)
  simp only [State.stepWalk]
  split
  · exact h
  · split
    · exact (ended _ (visited _)).same (State.offerStatus_alertView _)
    · exact (visited _).same rfl

/-! ## The alert unit -/

theorem promote (h : s.SlotsAgree) : s.promote.SlotsAgree := by
  unfold State.promote
  split
  · exact h
  · split
    · rename_i i x empty oldest
      intro on
      have pending : x.alert = .pending := by simpa using List.find?_some oldest
      have mem : (x.seq, AlertState.pending) ∈ s.alertView.alerts :=
        State.mem_alerts_iff.2 ⟨x, List.mem_of_find?_eq_some oldest, rfl, pending⟩
      have vacant : s.main.slots.get i = none := by simpa using List.find?_some empty
      have promoted := (h on).promote mem vacant
      rwa [State.alertView, ← s.ret.withAlert_alerting] at promoted
    · exact h

theorem ackAlert (slot : Byte) (q : Nat) (h : s.SlotsAgree) : (s.ackAlert slot q).SlotsAgree := by
  unfold State.ackAlert
  split
  · exact h
  · split
    · rename_i holds
      intro on
      have left := (h on).leave holds (a := .acked) nofun
      rwa [State.alertView, ← s.ret.withAlert_alerting] at left
    · exact h

theorem commitDrain (src v : Nat) (h : s.SlotsAgree) : (s.commitDrain src v).SlotsAgree := by
  by_cases awaited : s.main.drain.state = .awaitCommit ∧ s.main.drain.dock = some src
  · obtain ⟨state, dock⟩ := awaited
    rw [State.commitDrain_of_awaited v state dock]
    refine same (s := s.committed v) (fun on => ?_) (by simp)
    have frame := s.committed_frame v
    have agrees := h ((congrArg State.powered frame).symm.trans on)
    let goes (q : Nat) : Bool := s.main.drain.batch.contains q && decide (q ≤ v)
    have released (q : Nat) : (q, AlertState.slotted) ∈ s.releasedAlerts v ↔
        goes q = true ∧ (q, AlertState.slotted) ∈ s.alertView.alerts := by
      rw [State.releasedAlerts_eq, State.mem_alerts_iff]
      simp only [List.mem_map, List.mem_filter, Prod.mk.injEq]
      constructor
      · rintro ⟨x, ⟨hx, leaves⟩, rfl, slotted⟩
        exact ⟨leaves, x, hx, rfl, slotted⟩
      · rintro ⟨leaves, x, hx, rfl, slotted⟩
        exact ⟨x, ⟨hx, leaves⟩, rfl, slotted⟩
    have view : (s.committed v).alertView = { s.alertView with
        slots := s.main.slots.without (s.main.slots.emptiedBy (s.releasedAlerts v))
        alerts := s.alertView.alerts.filter fun a => !goes a.1 } := by
      have slots := congrArg Main.slots (s.committed_main v agrees.distinct)
      have alerts : (s.ret.commit s.main.drain.batch v).log.map Record.alerting =
          s.alertView.alerts.filter fun a => !goes a.1 := by
        rw [State.alertView, List.filter_map]
        exact map_alerting (Record.withMark .unsent) (fun x => s.main.drain.batch.contains x.seq = true)
          (fun _ => rfl) _
      rw [State.alertView, slots, frame]
      simp only [alerts]
      rfl
    rw [view]
    exact agrees.release goes released
  · rw [State.commitDrain, if_neg awaited]
    exact h

/-! ## Resets, starts and losses of supply -/

theorem stationReset (h : s.SlotsAgree) : s.stationReset.SlotsAgree := by
  obtain ⟨powered, -⟩ := s.stationReset_frame
  intro on
  have agrees := h (powered.symm.trans on)
  have seqs : s.stationReset.alertView.alerts.map Prod.fst = s.alertView.alerts.map Prod.fst := by
    simp only [State.alertView, State.stationReset_ret, List.map_map]
    rfl
  have slots : s.stationReset.main.slots = emptySlots := by
    rw [State.stationReset_main]
    rfl
  have unslotted (q : Nat) : (q, AlertState.slotted) ∉ s.stationReset.alertView.alerts := by
    intro mem
    obtain ⟨x, hx, -, slotted⟩ := State.mem_alerts_iff.1 mem
    rw [State.stationReset_ret] at hx
    obtain ⟨y, hy, rfl⟩ := List.mem_map.1 hx
    dsimp only at slotted
    split at slotted
    · exact AlertState.noConfusion slotted
    · rename_i none
      exact none ⟨y, hy, rfl, slotted⟩
  have empty (i : Fin 4) : s.stationReset.main.slots.get i = none := by
    rw [slots]
    fin_cases i <;> rfl
  refine ⟨seqs ▸ agrees.rising, fun a ha => ?_, fun i j q hi => ?_, fun q => ?_⟩
  · obtain ⟨b, hb, e⟩ := List.mem_map.1 (seqs ▸ List.mem_map_of_mem ha : a.1 ∈ _)
    have nextSeq : s.stationReset.ret.nextSeq = s.ret.nextSeq := by rw [State.stationReset_ret]
    have below : b.1 < s.ret.nextSeq := agrees.below b hb
    rw [← e]
    exact below.trans_eq nextSeq.symm
  · exact absurd hi (by simp [State.alertView, empty])
  · simpa [State.alertView, empty] using unslotted q

end State.SlotsAgree

/-- The visit of a RESTORED start leaves no record SLOTTED (R162). -/
theorem State.visitLog_unslotted (s : State) : ∀ x ∈ s.visitLog.ret.log, x.alert ≠ .slotted := by
  have restored (x : Record) : x.restore.alert ≠ .slotted := by
    show (if x.alert = .slotted then AlertState.pending else x.alert) ≠ .slotted
    split
    · nofun
    · assumption
  obtain ⟨-, -, -, -, ret⟩ := State.foldl_write_frame
    (fun (x : Record) r => r.updRecord x.seq Record.restore) (s.ret.log.filter fun x => x.restore != x) s
  rw [State.visitLog, ret, ← List.foldl_map (f := Record.seq) (g := fun r q => Retained.updRecord r q Record.restore),
    Retained.foldl_updRecord Record.restore (fun _ => rfl) Record.restore_restore]
  intro x hx
  obtain ⟨y, hy, rfl⟩ := List.mem_map.1 hx
  split
  · exact restored y
  · rename_i unvisited
    have unchanged : y.restore = y := by
      by_contra changes
      exact unvisited (List.mem_map_of_mem (List.mem_filter.2 ⟨hy, by simpa using changes⟩))
    exact unchanged ▸ restored y

/-- A start leaves no slot occupied and no record SLOTTED (R162, R195, R196). -/
theorem State.started_slotsNameSlotted (s : State) (strap : Nat) (block : List Byte) (pins : Pins) :
    (s.started strap block pins).SlotsNameSlotted := by
  have slots : (s.started strap block pins).main.slots = emptySlots :=
    State.offer_slots _ { mask := maskAll, body := .status }
  have ret : (s.started strap block pins).ret = s.decideCause.ret := State.offerStatus_ret _
  have unslotted : ∀ x ∈ s.decideCause.ret.log, x.alert ≠ .slotted := by
    unfold State.decideCause
    split
    · exact s.visitLog_unslotted
    · exact fun x hx => absurd hx List.not_mem_nil
  intro _
  rw [slots, ret]
  exact ⟨List.nodup_nil, fun q hq => absurd hq List.not_mem_nil, fun x hx slotted => absurd slotted (unslotted x hx)⟩

theorem State.SlotsAgree.loseMain {s : State} (cut : Nat) (h : s.SlotsAgree) : (s.loseMain cut).SlotsAgree := by
  unfold State.loseMain
  split
  · exact fun on => Bool.noConfusion on
  · exact h

theorem State.SlotsAgree.loseBackup {s : State} (h : s.SlotsAgree) : s.loseBackup.SlotsAgree := by
  intro on
  have powered : s.powered = true := on
  simpa [State.alertView, State.loseBackup, powered] using h powered

/-! ## Every command and every step -/

namespace State.SlotsAgree

variable {s : State}

theorem hear (src : Nat) (role : Option Role) {act : State → State} (h : s.SlotsAgree)
    (acts : ∀ u, u.SlotsAgree → (act u).SlotsAgree) : (s.hear src role act).SlotsAgree := by
  rcases s.hear_cases src role act with ⟨-, e⟩ | ⟨-, -, -, e⟩ | ⟨r, -, -, -, -, e⟩ <;> rw [e]
  · exact h.same (by simp)
  · exact h.same (by simp)
  · exact acts _ (h.same (by simp))

theorem hearAddressed (src : Nat) (role : Role) {act : State → State} (h : s.SlotsAgree)
    (acts : ∀ u, u.SlotsAgree → (act u).SlotsAgree) : (s.hearAddressed src role act).SlotsAgree :=
  h.hear src _ fun _ hu => acts _ (hu.same (by simp))

theorem hearQuery (src : Nat) (role : Role) {act : State → State} (h : s.SlotsAgree)
    (acts : ∀ u, u.SlotsAgree → (act u).SlotsAgree) : (s.hearQuery src role act).SlotsAgree := by
  refine h.hear src _ fun u hu => ?_
  split
  · exact hu
  · exact acts _ (hu.same (by simp))

theorem actOnKind (k : Kind) (src : Nat) (body : List Byte) (h : s.SlotsAgree) :
    (s.actOnKind k src body).SlotsAgree := by
  cases k with
  | alertAck => exact h.ackAlert _ _
  | reset => exact h.stationReset
  | commit => exact h.commitDrain _ _
  | _ => exact h.same (by simp [State.actOnKind])

theorem hearBytes (bytes : List Byte) (h : s.SlotsAgree) : (s.hearBytes bytes).SlotsAgree := by
  unfold State.hearBytes
  split
  · split <;> exact h.same (by simp)
  · refine h.hear _ _ fun u hu => ?_
    unfold State.actOnPost
    split
    · split
      · split
        · exact hu.actOnKind _ _ _
        · exact (hu.same (State.restartParkReturn_alertView u)).actOnKind _ _ _
      · exact hu
    · exact hu

/-- The commands that reach the slots, or an ALERT-STATE, are named here; every other moves nothing that the binding
reads. -/
theorem exec {t : State} (i : Instr) (h : s.SlotsAgree) (next : Machine.exec i s = .next t) : t.SlotsNameSlotted := by
  have begun : s.begin.SlotsAgree := h
  cases i with
  | take p => cases next; exact (begun.takeFrom p).slotsNameSlotted
  | idleExpiry m =>
    cases next
    exact (begun.contactExpiry m _ fun u c hu => hu.same (u.idleExpired_alertView c)).slotsNameSlotted
  | holdOffExpiry m =>
    cases next
    exact (begun.contactExpiry m _ fun u c hu => (hu.same (u.setContact_alertView _)).attemptClaim _).slotsNameSlotted
  | settleExpiry m =>
    cases next
    exact (begun.contactExpiry m _ fun u c hu => hu.settleExpired c).slotsNameSlotted
  | postReceived bytes => cases next; exact (begun.hearBytes bytes).slotsNameSlotted
  | alertAck src slot q =>
    cases next
    exact (begun.hearAddressed _ _ fun _ hu => hu.ackAlert slot _).slotsNameSlotted
  | walkStep => cases next; exact begun.stepWalk.slotsNameSlotted
  | reset src role => cases next; exact (begun.hearQuery _ _ fun _ hu => hu.stationReset).slotsNameSlotted
  | commit src v => cases next; exact (begun.hearAddressed _ _ fun _ hu => hu.commitDrain _ _).slotsNameSlotted
  | promotion => cases next; exact begun.promote.slotsNameSlotted
  | mainSupplyLoss cut => cases next; exact (h.loseMain cut).slotsNameSlotted
  | startUp straps block ign mv => cases next; exact State.started_slotsNameSlotted _ _ block _
  | backupSupplyLoss =>
    cases next
    split
    · exact begun.loseBackup.slotsNameSlotted
    · exact begun.slotsNameSlotted
  | claim | yield | status | alert =>
    cases next
    exact (begun.hear _ _ fun u hu => hu.same (by simp)).slotsNameSlotted
  | routeBegin | routeEntry | routeGo | routeClose | park | run | drainOpen | drainClose =>
    cases next
    exact (begun.hearAddressed _ _ fun u hu => hu.same (by simp)).slotsNameSlotted
  | configQuery | countQuery =>
    cases next
    exact (begun.hearQuery _ _ fun u hu => hu.same (by simp)).slotsNameSlotted
  | drainPostOffer =>
    cases next
    split
    · exact (begun.same (by simp)).slotsNameSlotted
    · exact begun.slotsNameSlotted
  | _ => cases next; exact (begun.same (by simp)).slotsNameSlotted

theorem step {t : State} (h : s.SlotsAgree) (next : Machine.step s = .next t) : t.SlotsNameSlotted := by
  unfold Machine.step at next
  split at next
  · cases next
    exact (h.same (by simp [State.idle])).slotsNameSlotted
  · rename_i i rest _
    exact exec (s := { s with pending := rest }) i h next

end State.SlotsAgree

/-- Settles O59: the binding and the order of the log, which a sound state has, are kept together through a step. -/
theorem alertSlotsNameSlottedRecords : Obligations.AlertSlotsNameSlottedRecords := by
  unfold Obligations.AlertSlotsNameSlottedRecords
  rintro s t ⟨⟨⟨order, -⟩, -⟩, -, -, -, -, bound, -⟩ next
  exact (State.slotsAgree_of_sound order bound).step next

end Sys2Proof.Machine
end

section
/-! # The alert unit: the alert test, promotion and ALERT-ACK (R57, R62 to R71) -/

namespace Sys2Proof.Machine

/-! ## ALERT-ACK -/

theorem slotOfByte_eq_some_iff (b : Byte) (i : Fin 4) : slotOfByte b = some i ↔ b.toNat = i.val := by
  unfold slotOfByte
  split
  · simp [Fin.ext_iff]
  · refine iff_of_false nofun fun e => ?_
    have := i.isLt
    omega

theorem State.ackAlert_matched {s : State} {slot : Byte} {seq : Nat} {i : Fin 4} (names : slot.toNat = i.val)
    (holds : s.main.slots.get i = some seq) :
    s.ackAlert slot seq = (s.freeSlot i).write fun r => r.updRecord seq (Record.withAlert .acked) := by
  simp [State.ackAlert, (slotOfByte_eq_some_iff slot i).2 names, holds]

theorem State.ackAlert_ignored {s : State} {slot : Byte} {seq : Nat}
    (h : ∀ i : Fin 4, slot.toNat = i.val → s.main.slots.get i ≠ some seq) : s.ackAlert slot seq = s := by
  unfold State.ackAlert
  split
  · rfl
  · rename_i i named
    exact if_neg (h i ((slotOfByte_eq_some_iff slot i).1 named))

/-- Settles O18: the ALERT-ACK acts on the state that has heard its post, which has the slots and the posts of the
state before. -/
theorem alertAckMatchesSlotAndSequence : Obligations.AlertAckMatchesSlotAndSequence := by
  unfold Obligations.AlertAckMatchesSlotAndSequence
  intro src slot seq s takes u
  have heard : u = _ := s.hearing_eq src .console
  have slots : u.main.slots = s.main.slots := by rw [heard]
  have acts : exec (.alertAck src slot seq) s = .next (u.ackAlert slot seq.toNat) :=
    congrArg Host.Outcome.next (s.hearAddressed_of_takesFrom src .console _ takes)
  rw [acts]
  constructor
  · intro i names holds
    rw [State.ackAlert_matched names (slots ▸ holds), heard]
    rfl
  · intro other
    rw [State.ackAlert_ignored (slots.symm ▸ other)]

/-! ## The alert test -/

theorem Finding.mem_all (f : Finding) : f ∈ Finding.all := by
  cases f <;> decide

/-- The highest of a run of severities, from one that has been met. -/
theorem foldl_severity_some (l : List Nat) (b : Nat) :
    ∃ v, l.foldl (fun best v => some (max v (best.getD 0))) (some b) = some v ∧ (v = b ∨ v ∈ l) ∧ b ≤ v ∧
      ∀ w ∈ l, w ≤ v := by
  induction l generalizing b with
  | nil => exact ⟨b, rfl, .inl rfl, Nat.le_refl b, nofun⟩
  | cons a l ih =>
    obtain ⟨v, run, member, above, others⟩ := ih (max a b)
    refine ⟨v, run, ?_, (Nat.le_max_right a b).trans above, ?_⟩
    · rcases member with rfl | mem
      · rcases Nat.le_total a b with le | le
        · exact .inl (Nat.max_eq_right le)
        · exact .inr (by simp [Nat.max_eq_left le])
      · exact .inr (List.mem_cons_of_mem a mem)
    · exact List.forall_mem_cons.2 ⟨(Nat.le_max_left a b).trans above, others⟩

/-- What the highest severity of a set can be (R57): none for the empty set, and otherwise that of a member which no
other member exceeds. -/
theorem highestSeverity_cases (fs : FindingSet) :
    (highestSeverity fs = none ∧ ∀ f, hasFinding fs f = false) ∨
      ∃ f, highestSeverity fs = some f.severity ∧ hasFinding fs f = true ∧
        ∀ g, hasFinding fs g = true → g.severity ≤ f.severity := by
  have members (f : Finding) : f ∈ Finding.all.filter (hasFinding fs) ↔ hasFinding fs f = true := by
    simp [Finding.mem_all]
  unfold highestSeverity
  cases h : Finding.all.filter (hasFinding fs) with
  | nil => exact .inl ⟨rfl, fun f => by simpa [h] using members f⟩
  | cons a l =>
    obtain ⟨v, run, member, above, others⟩ := foldl_severity_some (l.map Finding.severity) a.severity
    have first : max a.severity ((none : Option Nat).getD 0) = a.severity := Nat.max_eq_left (Nat.zero_le _)
    have found : ∃ f ∈ a :: l, f.severity = v := by
      rcases member with rfl | mem
      · exact ⟨a, List.mem_cons_self, rfl⟩
      · obtain ⟨f, hf, e⟩ := List.mem_map.1 mem
        exact ⟨f, List.mem_cons_of_mem a hf, e⟩
    obtain ⟨f, hf, rfl⟩ := found
    refine .inr ⟨f, ?_, (members f).1 (h ▸ hf), fun g hg => ?_⟩
    · rw [List.map_cons, List.foldl_cons, first, run]
    · rcases List.mem_cons.1 (h ▸ (members g).2 hg) with rfl | mem
      · exact above
      · exact others _ (List.mem_map_of_mem mem)

/-- The alert test in terms of the most severe finding (R62). -/
theorem qualifies_iff (fs : FindingSet) (h : Nat) (watched : Bool) :
    qualifies fs h watched = true ↔
      ∃ f, hasFinding fs f = true ∧ (∀ g, hasFinding fs g = true → g.severity ≤ f.severity) ∧
        (h ≤ f.severity ∨ (watched = true ∧ 1 ≤ f.severity)) := by
  rcases highestSeverity_cases fs with ⟨highest, empty⟩ | ⟨f, highest, member, most⟩ <;>
    simp only [qualifies, highest]
  · exact iff_of_false nofun fun ⟨f, member, _⟩ => by simp [empty f] at member
  · simp only [Bool.or_eq_true, Bool.and_eq_true, decide_eq_true_eq]
    constructor
    · exact fun test => ⟨f, member, most, test⟩
    · rintro ⟨g, memberG, mostG, test⟩
      rwa [Nat.le_antisymm (most g memberG) (mostG f member)] at test

/-! ## Promotion -/

theorem Slots.lowestEmpty_eq {x : Slots} {i : Fin 4} (empty : x.get i = none) (full : ∀ j, j < i → x.get j ≠ none) :
    x.lowestEmpty = some i := by
  have occupied (j : Fin 4) (lt : j < i) : (x.get j).isNone = false := by
    cases h : x.get j
    · exact absurd h (full j lt)
    · rfl
  fin_cases i <;> simp_all [Slots.lowestEmpty, slotNumbers]

theorem Slots.lowestEmpty_eq_none {x : Slots} (full : ∀ i, x.get i ≠ none) : x.lowestEmpty = none :=
  List.find?_eq_none.2 fun i _ => by simpa using full i

theorem Retained.oldestPending_eq {r : Retained} {x : Record} {older newer : List Record}
    (log : r.log = older ++ x :: newer) (pending : x.alert = .pending) (earlier : ∀ y ∈ older, y.alert ≠ .pending) :
    r.oldestPending = some x := by
  rw [Retained.oldestPending, log, List.find?_append, List.find?_eq_none.2 (by simpa using earlier)]
  simp [pending]

theorem Retained.oldestPending_eq_none {r : Retained} (h : ∀ x ∈ r.log, x.alert ≠ .pending) :
    r.oldestPending = none :=
  List.find?_eq_none.2 (by simpa using h)

/-- A promotion is one write of the record beside its slot (R64), and its ALERT, which replaces no post, enters at the
tail of the queue. -/
theorem State.promoteTo_eq (s : State) (i : Fin 4) (x : Record) :
    s.promoteTo i x = { s with
      journal := s.ret :: s.journal
      ret := s.ret.updRecord x.seq (Record.withAlert .slotted)
      main := { s.main with
        slots := s.main.slots.set i (some x.seq), queue := s.main.queue ++ [alertPost s.ret i x] } } := by
  simp [State.promoteTo, State.enqueue, State.write, alertPost, PostBody.replaces, PostBody.isStatus,
    PostBody.claimMeter]

theorem alertPost_of_read (r : Retained) (i : Fin 4) {x : Record} {f : ReadFields} (body : x.body = .read f) :
    alertPost r i x =
      { mask := maskAll
        body := .alert i x.seq f.meter f.findings (r.watched f.meter) ((highestSeverity f.findings).getD 0) } := by
  simp [alertPost, Record.meter, Record.findings, body]

theorem State.promote_eq {s : State} {i : Fin 4} {x : Record} (powered : s.powered = true) (loud : s.main.mute = false)
    (room : s.main.queue.length < queueLimit) (slot : s.main.slots.lowestEmpty = some i)
    (oldest : s.ret.oldestPending = some x) : s.promote = s.promoteTo i x := by
  simp [State.promote, powered, loud, State.queueRoom, room, slot, oldest]

/-- Each of the four conditions of R64 alone prevents a promotion. -/
theorem State.promote_prevented {s : State}
    (h : s.main.slots.lowestEmpty = none ∨ s.ret.oldestPending = none ∨ s.main.mute = true ∨
      queueLimit ≤ s.main.queue.length) : s.promote = s := by
  unfold State.promote
  split
  · rfl
  · rename_i conditions
    simp only [State.queueRoom, decide_eq_false_iff_not, not_or, Nat.not_lt, Nat.not_le] at conditions
    obtain ⟨-, loud, room⟩ := conditions
    split
    · rename_i i x slot oldest
      rcases h with occupied | calm | mute | full
      · simp [slot] at occupied
      · simp [oldest] at calm
      · exact absurd mute loud
      · omega
    · rfl

/-- Settles O17: the alert test by the most severe finding, and promotion by the two searches it makes. -/
theorem alertsAreRaisedAndPromotedInOrder : Obligations.AlertsAreRaisedAndPromotedInOrder := by
  unfold Obligations.AlertsAreRaisedAndPromotedInOrder
  refine ⟨fun f => by cases f <;> rfl, qualifies_iff, ?_, ?_⟩
  · intro s i x older newer f powered loud room empty full log pending body earlier
    have promotes := State.promote_eq (s := s.begin) powered loud room (Slots.lowestEmpty_eq empty full)
      (Retained.oldestPending_eq log pending earlier)
    simp only [exec, execPromotion, done, promotes, State.promoteTo_eq, alertPost_of_read _ _ body,
      Retained.watched_eq]
    rfl
  · intro s prevented
    refine congrArg Host.Outcome.next (State.promote_prevented (s := s.begin) ?_)
    exact prevented.imp Slots.lowestEmpty_eq_none (.imp_left Retained.oldestPending_eq_none)

end Sys2Proof.Machine
end

section
/-! # STATUS: its timer, what it carries, and where that stands in the body (R73, R90, R91, R135, section 11.4) -/

namespace Sys2Proof.Machine

/-! ## Bytes written and read back -/

@[simp] theorem beBytes_length (n v : Nat) : (beBytes n v).length = n := by
  induction n with
  | zero => rfl
  | succ n ih => exact congrArg (· + 1) ih

theorem beNat_beBytes (n v : Nat) : beNat (beBytes n v) = v % 256 ^ n := by
  induction n with
  | zero => simp [beBytes, beNat, Nat.mod_one]
  | succ n ih =>
    rw [beBytes, beNat_cons, ih, beBytes_length, BitVec.toNat_ofNat, Nat.pow_succ (m := n), Nat.mod_mul]
    ring

/-- A value that fits its bytes is read back where they begin. -/
theorem beAt_field {n v : Nat} (h : v < 256 ^ n) (rest : List Byte) : beAt (beBytes n v ++ rest) 0 n = v := by
  rw [beAt, List.drop_zero, List.take_left' (beBytes_length n v), beNat_beBytes, Nat.mod_eq_of_lt h]

theorem beAt_after (a b : List Byte) (i n : Nat) : beAt (a ++ b) (a.length + i) n = beAt b i n := by
  rw [beAt, List.drop_length_add_append]
  rfl

theorem beAt_of_length_le {a : List Byte} {i : Nat} (h : a.length ≤ i) (b : List Byte) (n : Nat) :
    beAt (a ++ b) i n = beAt b (i - a.length) n := by
  rw [← beAt_after a b, Nat.add_sub_cancel' h]

/-- Fields of one length, one after another: the field at place `i`. -/
theorem drop_flatMap_of_length {α : Type} {g : α → List Byte} {k : Nat} (length : ∀ x, (g x).length = k) {l : List α}
    {i : Nat} {x : α} (h : l[i]? = some x) : ∃ rest, (l.flatMap g).drop (k * i) = g x ++ rest := by
  induction l generalizing i with
  | nil => simp at h
  | cons y l ih =>
    cases i with
    | zero =>
      obtain rfl : y = x := by simpa using h
      exact ⟨l.flatMap g, by simp⟩
    | succ i =>
      obtain ⟨rest, e⟩ := ih (i := i) (by simpa using h)
      refine ⟨rest, ?_⟩
      rw [List.flatMap_cons, Nat.mul_succ, Nat.add_comm, ← length y, List.drop_length_add_append, length y, e]

/-! ## The body of a STATUS -/

/-- The first 24 bytes of a STATUS body. -/
def statusHead (f : StatusFields) : List Byte :=
  beBytes 2 f.route ++
    [BitVec.ofNat 8 (routeStateCode f.routeState * 16 + causeCode f.cause),
     bitByte f.trunc f.sagSeen f.linkAwake f.noroom false false false false] ++
    beBytes 4 f.routeRefused.toNat ++ beBytes 2 f.due ++ beBytes 2 f.readHere ++
    beBytes 2 f.readPeer ++ beBytes 2 f.missed ++ beBytes 2 f.occupancy ++
    beBytes 4 (f.oldest.getD 0) ++ beBytes 2 f.pending

theorem statusBody_eq (f : StatusFields) : bodyBytes f .status = statusHead f ++ f.slots.flatMap slotBytes := rfl

theorem slotBytes_length (x : Option (MeterId × Nat)) : (slotBytes x).length = 8 := by
  cases x <;> simp [slotBytes]

/-- The counts and sequences of a STATUS that fit their fields, each read back from behind the fields before it. -/
theorem status_words (f : StatusFields) (route : f.route < 2 ^ 16) (due : f.due < 2 ^ 16) (here : f.readHere < 2 ^ 16)
    (peer : f.readPeer < 2 ^ 16) (missed : f.missed < 2 ^ 16) (occupancy : f.occupancy < 2 ^ 16)
    (pending : f.pending < 2 ^ 16) :
    beAt (bodyBytes f .status) 0 2 = f.route ∧ beAt (bodyBytes f .status) 4 4 = f.routeRefused.toNat ∧
      beAt (bodyBytes f .status) 8 2 = f.due ∧ beAt (bodyBytes f .status) 10 2 = f.readHere ∧
      beAt (bodyBytes f .status) 12 2 = f.readPeer ∧ beAt (bodyBytes f .status) 14 2 = f.missed ∧
      beAt (bodyBytes f .status) 16 2 = f.occupancy ∧
      (f.oldest.getD 0 < 2 ^ 32 → beAt (bodyBytes f .status) 18 4 = f.oldest.getD 0) ∧
      beAt (bodyBytes f .status) 22 2 = f.pending := by
  simp (disch := simp) only [statusBody_eq, statusHead, List.append_assoc, beAt_of_length_le, beBytes_length]
  exact ⟨beAt_field route _, beAt_field f.routeRefused.isLt _, beAt_field due _, beAt_field here _, beAt_field peer _,
    beAt_field missed _, beAt_field occupancy _, fun oldest => beAt_field oldest _, beAt_field pending _⟩

/-- The slot pairs stand from byte 24 on, eight bytes each. -/
theorem beAt_slot {f : StatusFields} {i : Nat} {x : Option (MeterId × Nat)} (h : f.slots[i]? = some x) :
    ∃ rest, ∀ j n, beAt (bodyBytes f .status) (24 + 8 * i + j) n = beAt (slotBytes x ++ rest) j n := by
  obtain ⟨rest, e⟩ := drop_flatMap_of_length slotBytes_length h
  have length : (statusHead f).length = 24 := by simp [statusHead]
  refine ⟨rest, fun j n => ?_⟩
  rw [statusBody_eq, ← length, Nat.add_assoc, beAt_after, beAt, beAt, ← e, List.drop_drop]

theorem routeState_byte (x : RouteState) (c : Cause) :
    (BitVec.ofNat 8 (routeStateCode x * 16 + causeCode c)).toNat =
      (match x with
        | .noRoute => 0 | .loading => 16 | .running => 32 | .closing => 48 | .closed => 64) +
      (match c with | .cold => 0 | .restored => 1 | .stationReset => 2) := by
  cases x <;> cases c <;> rfl

theorem mark_byte (a b c d : Bool) :
    (bitByte a b c d false false false false).toNat =
      (if a = true then 128 else 0) + (if b = true then 64 else 0) + (if c = true then 32 else 0) +
        (if d = true then 16 else 0) := by
  revert a b c d
  decide

/-! ## The contents of a STATUS -/

/-- Each entry counts under one of the four states of R135. -/
theorem entry_counts_sum (es : List RouteEntry) :
    es.countP RouteEntry.countsDue + es.countP RouteEntry.isReadHere + es.countP RouteEntry.isReadPeer +
      es.countP RouteEntry.isMissed = es.length := by
  induction es with
  | nil => rfl
  | cons e es ih =>
    have one : e.countsDue.toNat + e.isReadHere.toNat + e.isReadPeer.toNat + e.isMissed.toNat = 1 := by
      simp only [RouteEntry.countsDue, RouteEntry.isReadHere, RouteEntry.isReadPeer, RouteEntry.isMissed]
      cases e.state <;> rfl
    have count (b : Bool) : (if b = true then 1 else 0) = b.toNat := by cases b <;> rfl
    simp only [List.countP_cons, List.length_cons, count]
    omega

/-- The lowest sequence of a log in order is that of its first record (R150). -/
theorem Retained.LogInOrder.head_le {r : Retained} (h : r.LogInOrder) {q : Nat}
    (first : r.log.head?.map Record.seq = some q) : (∃ x ∈ r.log, x.seq = q) ∧ ∀ x ∈ r.log, q ≤ x.seq := by
  obtain ⟨rising, -⟩ := h
  cases log : r.log with
  | nil => simp [log] at first
  | cons x l =>
    obtain rfl : x.seq = q := by simpa [log] using first
    rw [log, List.map_cons, List.pairwise_cons] at rising
    refine ⟨⟨x, List.mem_cons_self, rfl⟩, List.forall_mem_cons.2 ⟨Nat.le_refl _, fun y hy => ?_⟩⟩
    exact Nat.le_of_lt (rising.1 y.seq (List.mem_map_of_mem hy))

theorem State.statusFields_slots (s : State) (i : Fin 4) : s.statusFields.slots[i.val]? = some (s.slotPair i) := by
  fin_cases i <;> rfl

/-- An offered STATUS restarts the status timer for the status interval (R90). -/
theorem State.offerStatus_eq (s : State) :
    s.offerStatus =
      { s.offer { mask := maskAll, body := .status } with
        main := { (s.offer { mask := maskAll, body := .status }).main with
          statusTimer := some (s.main.cfg.statusInterval * 1000) } } := by
  simp only [State.offerStatus, State.offer_cfg, startTimer]

/-- Settles O28: the timer by the offer it makes, the contents field by field, and each field read back from behind
the bytes before it. -/
theorem statusTimerOffersStatusAndRestarts : Obligations.StatusTimerOffersStatusAndRestarts := by
  unfold Obligations.StatusTimerOffersStatusAndRestarts
  refine ⟨fun s left running => ?_, State.offerStatus_eq, fun s => ?_, ?_⟩
  · have expires : exec .statusTimerExpiry s = .next ((s.begin).passTime left).offerStatus := by
      simp [exec, execStatusTimerExpiry, done, State.statusTimerExpired, running]
    rw [expires, State.offerStatus_eq, State.passTime_cfg]
    rfl
  · refine ⟨rfl, rfl, rfl, rfl, rfl, beq_iff_eq, ?_, rfl, entry_counts_sum _, List.countP_eq_length_filter,
      List.countP_eq_length_filter, List.countP_eq_length_filter, rfl, ?_, fun order q => order.head_le,
      List.countP_eq_length_filter, fun i => ⟨fun empty => ?_, fun q x m holds found meter => ?_⟩⟩
    · exact List.any_eq_true
    · simp [State.statusFields]
    · rw [State.statusFields_slots, State.slotPair, empty]
    · rw [State.statusFields_slots, State.slotPair, holds]
      simp [found, meter]
  · intro f body word route due here peer missed occupancy pending
    obtain ⟨routeAt, refusedAt, dueAt, hereAt, peerAt, missedAt, occupancyAt, oldestAt, pendingAt⟩ :=
      status_words f route due here peer missed occupancy pending
    refine ⟨routeAt, routeState_byte f.routeState f.cause, mark_byte _ _ _ _, refusedAt, dueAt, hereAt, peerAt,
      missedAt, occupancyAt, fun absent => ?_, fun q oldest bound => ?_, pendingAt, fun i => ⟨fun empty => ?_,
      fun m q full bound => ?_⟩⟩
    · rw [absent] at oldestAt
      exact oldestAt (by decide)
    · rw [oldest] at oldestAt
      exact oldestAt bound
    · obtain ⟨rest, at_⟩ := beAt_slot empty
      exact (at_ 0 8).trans (beAt_field (by decide) rest)
    · obtain ⟨rest, at_⟩ := beAt_slot full
      rw [slotBytes, List.append_assoc] at at_
      refine ⟨(at_ 0 4).trans (beAt_field m.isLt _), ?_⟩
      have later : 28 + 8 * i = 24 + 8 * i + 4 := by omega
      show beAt (bodyBytes f .status) (28 + 8 * i) 4 = q
      rw [later, at_ 4 4, beAt_of_length_le (by simp)]
      exact beAt_field bound rest

end Sys2Proof.Machine
end


section
/-! # One dispatch for the promises about the link: the transmit queue, the transmitter, the drain engine and the peers

Most operations reach these blocks by offering a post, by withdrawing posts, or not at all. That is said here once, so
that R80 and R95 are left to be proved for the few operations that do more. -/

namespace Sys2Proof.Machine

/-! ## What the promises read -/

/-- The blocks of the main domain that meet on the Drive Link. -/
structure LinkBlocks where
  strap : Nat
  mute : Bool
  queue : List Post
  current : Option Current
  drain : Drain
  peers : List Peer

def Main.link (m : Main) : LinkBlocks :=
  { strap := m.strap, mute := m.mute, queue := m.queue, current := m.current, drain := m.drain, peers := m.peers }

/-- `P` reads the supply and the blocks on the link alone, and each operation that moves one of them keeps it. -/
structure LinkPromise (P : State → Prop) : Prop where
  aside : ∀ {s t : State}, P s → t.powered = s.powered → t.main.link = s.main.link → P t
  passTime : ∀ {s : State} (n : Nat), P s → P (s.passTime n)
  offer : ∀ {s : State} (p : Post), p.body.isDrain = false → P s → P (s.offer p)
  withdraw : ∀ {s : State} (hit : PostBody → Bool), (∀ b, hit b = true → b.isDrain = false) → P s → P (s.withdraw hit)
  promoteTo : ∀ {s : State} (i : Fin 4) (x : Record), s.queueRoom = true → P s → P (s.promoteTo i x)
  hearPeer : ∀ {s : State} (src : Nat) (role : Role), src ≠ s.main.strap → P s → P (s.hearPeer src role)
  enterMute : ∀ {s : State}, P s → P s.enterMute
  silencePeer : ∀ {s : State} (n left : Nat), s.silenceTimer n = some left → P s → P ((s.passTime left).silencePeer n)
  attemptDue : ∀ {s : State} (quiet : Nat), P s → P (s.attemptDue quiet)
  attemptSent : ∀ {s : State}, P s → P s.attemptSent
  attemptFailed : ∀ {s : State}, P s → P s.attemptFailed
  openDrain : ∀ {s : State} (src : Nat), P s → P (s.openDrain src)
  endDrain : ∀ {s : State}, P s → P s.endDrain
  commitDrain : ∀ {s : State} (src v : Nat), P s → P (s.commitDrain src v)
  offerDrainPost : ∀ {s : State}, s.main.drain.post = .waiting → P s → P s.offerDrainPost
  stationReset : ∀ {s : State}, P s → P s.stationReset
  started : ∀ (s : State) (strap : Nat) (block : List Byte) (pins : Pins), P (s.started strap block pins)
  lost : ∀ {s : State}, s.powered = false → s.main = lostMain → P s

namespace LinkPromise

variable {P : State → Prop} (hP : LinkPromise P) {s : State}
include hP

/-! ## The shared operations -/

theorem begin (h : P s) : P s.begin := hP.aside h rfl rfl

theorem write (f : Retained → Retained) (h : P s) : P (s.write f) := hP.aside h rfl rfl

theorem setContact (c : Contact) (h : P s) : P (s.setContact c) := hP.aside h rfl rfl

theorem dropContact (m : MeterId) (h : P s) : P (s.dropContact m) := hP.aside h rfl rfl

theorem offerStatus (h : P s) : P s.offerStatus := hP.aside (hP.offer { mask := maskAll, body := .status } rfl h) rfl rfl

theorem changeEntry (m : MeterId) (f : RouteEntry → RouteEntry) (h : P s) : P (s.changeEntry m f) := by
  obtain ⟨main, powered, -⟩ := s.changeEntry_frame m f
  exact hP.aside h powered (congrArg Main.link main)

/-! ## The contacts -/

theorem enterHeld (c : Contact) (h : P s) : P (s.enterHeld c) := by
  obtain ⟨main, -, powered, -⟩ := s.enterHeld_frame c
  refine hP.aside h powered ?_
  rw [main]
  rfl

theorem attemptClaim (m : MeterId) (h : P s) : P (s.attemptClaim m) := by
  rcases s.attemptClaim_cases m with e | ⟨c, -, -, ⟨-, e⟩ | ⟨-, ⟨k, -, e⟩ | ⟨-, -, e⟩ | ⟨-, -, e⟩⟩⟩ <;> rw [e]
  · exact h
  · exact hP.setContact _ h
  · exact hP.setContact _ h
  · exact hP.enterHeld c h
  · rcases s.offerClaim_cases c with ⟨-, e⟩ | ⟨-, e⟩ <;> rw [e]
    · exact hP.setContact _ (hP.offer _ rfl h)
    · exact h

theorem removeContact (m : MeterId) (h : P s) : P (s.removeContact m) := by
  rcases s.removeContact_cases m with ⟨-, e⟩ | ⟨c, -, ⟨q, -, e⟩ | ⟨-, e⟩ | ⟨-, e⟩⟩ <;> rw [e]
  · exact h
  · exact hP.dropContact m (hP.write _ h)
  · refine hP.dropContact m (hP.withdraw _ (fun b hit => ?_) h)
    obtain ⟨q, rfl⟩ := (isClaimingClaim_iff m b).1 hit
    rfl
  · exact hP.dropContact m h

theorem finishIdle (m : MeterId) (h : P s) : P (s.finishIdle m) := by
  unfold State.finishIdle
  split
  · exact h
  · split
    · exact hP.removeContact m h
    · exact h

theorem clearContacts (h : P s) : P s.clearContacts := by
  obtain ⟨-, -, powered, -⟩ := s.clearContacts_frame
  refine hP.aside (hP.withdraw s.ownsClaim (fun b hit => ?_) h) powered ?_
  · obtain ⟨c, -, -, q, rfl⟩ := (s.ownsClaim_iff b).1 hit
    rfl
  · rw [State.clearContacts_main]
    rfl

theorem followRecord (c : Contact) (h : P s) : P (s.followRecord c) := by
  obtain ⟨powered, -⟩ := s.followRecord_frame c
  exact hP.aside h powered (congrArg Main.link (s.followRecord_main c))

theorem countedArrival (x : Arrival) (h : P s) : P (s.countedArrival x) := by
  unfold State.countedArrival
  split
  · exact h
  · rename_i c _
    have followed := hP.followRecord (s.recordArrival c x) (hP.setContact (s.recordArrival c x) h)
    simp only [State.judgeEligibility]
    split
    · exact hP.attemptClaim _ followed
    · split
      · exact hP.attemptClaim _ (hP.setContact _ followed)
      · exact followed

theorem duplicateArrival (m : MeterId) (t q : Nat) (h : P s) : P (s.duplicateArrival m t q) := by
  unfold State.duplicateArrival
  split
  · exact h
  · simp only
    split <;> exact hP.aside h rfl rfl

theorem ensureContact (b : Burst) (t : Nat) (on : Bool) (h : P s) : P (s.ensureContact b t on) := by
  unfold State.ensureContact
  split
  · exact h
  · rw [State.evict_eq]
    exact hP.aside h rfl rfl

theorem handOver (p : Port) (f : Frame) (v : Verdict) (h : P s) : P (s.handOver p f v) := by
  simp only [State.handOver]
  split
  · exact hP.countedArrival _ (hP.ensureContact _ _ _ h)
  · exact hP.duplicateArrival _ _ _ h
  · exact h

theorem takeFrom (p : Port) (h : P s) : P (s.takeFrom p) := by
  unfold State.takeFrom
  split
  · exact h
  · refine hP.handOver p _ _ (hP.aside h rfl ?_)
    cases p <;> rfl

theorem contactExpiry (m : MeterId) (timer : Contact → Timer) {act : State → Contact → State} (h : P s)
    (kept : ∀ u c, P u → P (act u c)) : P (s.contactExpiry m timer act) := by
  unfold State.contactExpiry
  split
  · exact h
  · split
    · exact h
    · exact kept _ _ (hP.passTime _ h)

theorem idleExpired (c : Contact) (h : P s) : P (s.idleExpired c) := by
  unfold State.idleExpired
  split
  · exact hP.setContact _ h
  · exact hP.removeContact _ h

theorem holdOffExpired (c : Contact) (h : P s) : P (s.holdOffExpired c) := hP.attemptClaim _ (hP.setContact _ h)

theorem settleExpired (c : Contact) (h : P s) : P (s.settleExpired c) := by
  unfold State.settleExpired State.settleContact
  split
  · split
    · exact hP.finishIdle _ (hP.offer _ rfl (hP.enterHeld c h))
    · exact hP.finishIdle _ (hP.changeEntry _ _ (hP.setContact _ (hP.offer _ rfl h)))
  · exact h

/-! ## Claims -/

theorem answerAsHolder (m : MeterId) (q : Nat) (c : Claim) (h : P s) : P (s.answerAsHolder m q c) := by
  unfold State.answerAsHolder
  split
  · exact hP.offer _ rfl h
  · exact hP.write _ h

theorem cede (x : Contact) (k : Claim) (h : P s) : P (s.cede x k) := hP.changeEntry _ _ (hP.setContact _ h)

theorem claimAtEntry (m : MeterId) (c : Claim) (h : P s) : P (s.claimAtEntry m c) := by
  unfold State.claimAtEntry
  split
  · exact h
  · split
    · exact hP.answerAsHolder _ _ _ h
    · split <;> exact hP.changeEntry _ _ h

theorem claimAtListening (x : Contact) (c : Claim) (h : P s) : P (s.claimAtListening x c) := by
  unfold State.claimAtListening
  split
  · exact hP.answerAsHolder _ _ _ h
  · split
    · exact hP.cede x c h
    · exact hP.changeEntry _ _ h

theorem claimAtClaiming (x : Contact) (c : Claim) (h : P s) : P (s.claimAtClaiming x c) := by
  unfold State.claimAtClaiming
  split
  · exact hP.finishIdle _ (hP.cede x c h)
  · exact hP.changeEntry _ _ (hP.offer _ rfl h)

theorem claimAtCeded (x : Contact) (k c : Claim) (h : P s) : P (s.claimAtCeded x k c) := by
  unfold State.claimAtCeded
  split
  · exact hP.changeEntry _ _ (hP.setContact _ h)
  · exact h

theorem placeClaim (m : MeterId) (c : Claim) (h : P s) : P (s.placeClaim m c) := by
  unfold State.placeClaim
  split
  · exact h
  · split
    · exact hP.claimAtEntry m c h
    · split
      · exact hP.answerAsHolder _ _ _ h
      · exact hP.claimAtListening _ c h
      · exact hP.claimAtClaiming _ c h
      · exact hP.claimAtCeded _ _ c h

theorem placeYield (m : MeterId) (n : Nat) (h : P s) : P (s.placeYield m n) := by
  simp only [State.placeYield]
  split
  · exact h
  · have released : P (match s.contactOf m with
        | some x => if x.cededToClaiming n then s.setContact x.release else s
        | none => s) := by
      split
      · split
        · exact hP.setContact _ h
        · exact h
      · exact h
    split
    · exact hP.changeEntry _ _ released
    · exact released

theorem revertPeer (n : Nat) (h : P s) : P (s.revertPeer n) := by
  simp only [State.revertPeer]
  split <;> exact hP.aside h rfl rfl

/-! ## The line, and posts heard -/

theorem lineSilent (quiet : Nat) (h : P s) : P (s.lineSilent quiet) := by
  rw [State.lineSilent_eq]
  split
  · exact hP.aside h rfl rfl
  · exact h

theorem lineActive (quiet : Nat) (h : P s) : P (s.lineActive quiet) := by
  have silent := hP.lineSilent quiet h
  simp only [State.lineActive]
  split <;> exact hP.aside silent rfl rfl

theorem postPasses (h : P s) : P s.postPasses := by
  cases attempt : s.inAttempt
  · rw [State.postPasses_eq s attempt]
    split <;> exact hP.aside h rfl rfl
  · rwa [State.postPasses_inAttempt s attempt]

theorem restartParkReturn (h : P s) : P s.restartParkReturn := by
  rw [State.restartParkReturn_eq]
  exact hP.aside h rfl rfl

theorem hear (src : Nat) (role : Option Role) {act : State → State} (h : P s) (acts : ∀ u, P u → P (act u)) :
    P (s.hear src role act) := by
  have ended : P (s.setLine .quiet) := hP.aside h rfl rfl
  rcases s.hear_cases src role act with ⟨-, e⟩ | ⟨-, -, -, e⟩ | ⟨r, -, -, -, foreign, e⟩ <;> rw [e]
  · exact hP.postPasses h
  · exact hP.enterMute ended
  · exact acts _ (hP.hearPeer src r foreign ended)

theorem hearAddressed (src : Nat) (role : Role) {act : State → State} (h : P s) (acts : ∀ u, P u → P (act u)) :
    P (s.hearAddressed src role act) :=
  hP.hear src _ h fun _ hu => acts _ (hP.restartParkReturn hu)

theorem hearQuery (src : Nat) (role : Role) {act : State → State} (h : P s) (acts : ∀ u, P u → P (act u)) :
    P (s.hearQuery src role act) := by
  refine hP.hear src _ h fun u hu => ?_
  split
  · exact hu
  · exact acts _ (hP.restartParkReturn hu)

/-! ## The transmitter, the drain engine and the alert unit -/

theorem attemptAfter (quiet : Nat) (h : P s) : P (s.attemptAfter quiet) := by
  unfold State.attemptAfter
  split
  · exact h
  · split
    · exact hP.attemptDue quiet (hP.lineSilent quiet h)
    · exact hP.lineSilent quiet h

theorem closeDrain (src : Nat) (h : P s) : P (s.closeDrain src) := by
  unfold State.closeDrain
  split
  · exact hP.endDrain h
  · exact h

theorem promote (h : P s) : P s.promote := by
  unfold State.promote
  split
  · exact h
  · rename_i allowed
    have room : s.queueRoom = true := by
      cases room : s.queueRoom
      · simp [room] at allowed
      · rfl
    split
    · exact hP.promoteTo _ _ room h
    · exact h

theorem ackAlert (slot : Byte) (q : Nat) (h : P s) : P (s.ackAlert slot q) := by
  unfold State.ackAlert
  split
  · exact h
  · rename_i i _
    split
    · refine hP.write _ (hP.withdraw _ (fun b hit => ?_) (hP.aside h rfl rfl))
      cases b <;> simp_all [isAlertOf, PostBody.isDrain]
    · exact h

/-! ## The route -/

theorem routeBegun (route count : Nat) (h : P s) : P (s.routeBegun route count) := by
  unfold State.routeBegun
  split
  · exact h
  · split
    · simp only
      split
      · exact hP.write _ h
      · exact hP.offerStatus (hP.write _ h)
    · exact hP.aside h rfl rfl

theorem takeEntry (f : EntryFields) (h : P s) : P (s.takeEntry f) := by
  unfold State.takeEntry
  split
  · exact hP.write _ h
  · exact h
  · exact hP.aside h rfl rfl

theorem takeEntries (fs : List EntryFields) (h : P s) : P (s.takeEntries fs) := by
  induction fs generalizing s with
  | nil => exact h
  | cons f fs ih => exact ih (hP.takeEntry f h)

theorem routeGone (src : Nat) (h : P s) : P (s.routeGone src) := by
  unfold State.routeGone State.offerGap
  split
  · refine hP.offerStatus ?_
    split
    · exact hP.write _ h
    · exact hP.offer _ rfl (hP.write _ h)
  · exact h

theorem routeClosed (h : P s) : P s.routeClosed := by
  unfold State.routeClosed
  split
  · exact hP.offerStatus (hP.aside (hP.clearContacts (hP.write _ h)) rfl rfl)
  · exact h

theorem stepWalk (h : P s) : P s.stepWalk := by
  have visited : P (s.visitIndex s.main.walk) := by
    unfold State.visitIndex
    split
    · exact h
    · split
      · split <;> exact hP.write _ h
      · exact h
  unfold State.stepWalk
  split
  · exact h
  · simp only
    split
    · exact hP.offerStatus (hP.write _ visited)
    · exact hP.aside visited rfl rfl

/-! ## Supply, park and queries -/

theorem enterParked (h : P s) : P s.enterParked := by
  have flushed : P s.clearContacts.flushPorts := hP.aside (hP.clearContacts h) rfl rfl
  exact hP.aside (hP.endDrain flushed) rfl rfl

theorem parkPost (h : P s) : P s.parkPost := by
  unfold State.parkPost
  split
  · exact h
  · exact hP.enterParked h

theorem ignFell (h : P s) : P s.ignFell := by
  unfold State.ignFell
  split
  · exact hP.enterParked h
  · exact h

theorem enterRun (h : P s) : P s.enterRun := hP.offerStatus (hP.aside h rfl rfl)

theorem runPost (h : P s) : P s.runPost := by
  unfold State.runPost
  split
  · exact hP.enterRun h
  · exact h

theorem ignRose (h : P s) : P s.ignRose := by
  unfold State.ignRose
  split
  · exact hP.enterRun h
  · exact h

theorem answerCount (src : Nat) (part : Byte) (h : P s) : P (s.answerCount src part) := by
  unfold State.answerCount
  split
  · exact h
  · exact hP.offer _ rfl h

theorem judgeSag (h : P s) : P s.judgeSag := by
  unfold State.judgeSag
  split
  · exact hP.aside h rfl rfl
  · exact h

theorem judgeNormal (h : P s) : P s.judgeNormal := by
  unfold State.judgeNormal
  split
  · exact hP.aside h rfl rfl
  · exact h

theorem loseMain (cut : Nat) (h : P s) : P (s.loseMain cut) := by
  unfold State.loseMain
  split
  · exact hP.lost rfl rfl
  · exact hP.begin h

/-! ## The timers outside the contact table -/

theorem statusTimerExpired (h : P s) : P s.statusTimerExpired := by
  unfold State.statusTimerExpired
  split
  · exact h
  · exact hP.offerStatus (hP.passTime _ h)

theorem silenceExpired (n : Nat) (h : P s) : P (s.silenceExpired n) := by
  unfold State.silenceExpired
  split
  · exact h
  · exact hP.revertPeer n (hP.silencePeer n _ ‹_› h)

theorem commitWaitExpired (h : P s) : P s.commitWaitExpired := by
  unfold State.commitWaitExpired
  split
  · exact h
  · exact hP.endDrain (hP.passTime _ h)

theorem wakeSettled (h : P s) : P s.wakeSettled := by
  unfold State.wakeSettled
  split
  · exact h
  · rename_i left _
    exact hP.offerStatus (hP.aside (hP.passTime left h) rfl rfl)

theorem parkReturnExpired (h : P s) : P s.parkReturnExpired := by
  unfold State.parkReturnExpired
  split
  · exact h
  · exact hP.enterParked (hP.passTime _ h)

/-! ## Every command and every step -/

theorem actOnKind (k : Kind) (src : Nat) (body : List Byte) (h : P s) : P (s.actOnKind k src body) := by
  cases k with
  | claim => exact hP.placeClaim _ _ h
  | yield => exact hP.placeYield _ _ h
  | alertAck => exact hP.ackAlert _ _ h
  | routeBegin => exact hP.routeBegun _ _ h
  | routeEntry => exact hP.takeEntries _ h
  | routeGo => exact hP.routeGone _ h
  | routeClose => exact hP.routeClosed h
  | park => exact hP.parkPost h
  | run => exact hP.runPost h
  | reset => exact hP.stationReset h
  | configQuery => exact hP.offer _ rfl h
  | countQuery => exact hP.answerCount _ _ h
  | drainOpen => exact hP.openDrain _ h
  | commit => exact hP.commitDrain _ _ h
  | drainClose => exact hP.closeDrain _ h
  | _ => exact h

theorem hearBytes (bytes : List Byte) (h : P s) : P (s.hearBytes bytes) := by
  unfold State.hearBytes
  split
  · split
    · exact hP.aside (hP.postPasses h) rfl rfl
    · exact hP.postPasses h
  · refine hP.hear _ _ h fun u hu => ?_
    unfold State.actOnPost
    split
    · split
      · split
        · exact hP.actOnKind _ _ _ hu
        · exact hP.actOnKind _ _ _ (hP.restartParkReturn hu)
      · exact hu
    · exact hu

theorem lineStretch (p : Port) (bits : List Bool) (falls : Bool) (h : P s) : P (s.lineStretch p bits falls) := by
  obtain ⟨x, e⟩ := s.lineStretch_frame p bits falls
  rw [e]
  refine hP.aside h rfl ?_
  cases p <;> rfl

theorem exec {t : State} (i : Instr) (h : P s) (next : Machine.exec i s = .next t) : P t := by
  have begun := hP.begin h
  cases i with
  | frameComplete p wait bits falls => cases next; exact hP.lineStretch p bits falls (hP.passTime wait begun)
  | take p => cases next; exact hP.takeFrom p begun
  | idleExpiry m => cases next; exact hP.contactExpiry m _ begun fun _ c hu => hP.idleExpired c hu
  | holdOffExpiry m => cases next; exact hP.contactExpiry m _ begun fun _ c hu => hP.holdOffExpired c hu
  | settleExpiry m => cases next; exact hP.contactExpiry m _ begun fun _ c hu => hP.settleExpired c hu
  | attempt quiet => cases next; exact hP.attemptAfter quiet begun
  | postSent => cases next; exact hP.attemptSent begun
  | attemptLost => cases next; exact hP.attemptFailed begun
  | postReceived bytes => cases next; exact hP.hearBytes bytes begun
  | claim src m q hold => cases next; exact hP.hear _ _ begun fun _ hu => hP.placeClaim m _ hu
  | yield src m => cases next; exact hP.hear _ _ begun fun _ hu => hP.placeYield m _ hu
  | status src role => cases next; exact hP.hear _ _ begun fun _ hu => hu
  | alert src role => cases next; exact hP.hear _ _ begun fun _ hu => hu
  | alertAck src slot q => cases next; exact hP.hearAddressed _ _ begun fun _ hu => hP.ackAlert slot _ hu
  | routeBegin src route count => cases next; exact hP.hearAddressed _ _ begun fun _ hu => hP.routeBegun _ _ hu
  | routeEntry src fs => cases next; exact hP.hearAddressed _ _ begun fun _ hu => hP.takeEntries fs hu
  | routeGo src => cases next; exact hP.hearAddressed _ _ begun fun _ hu => hP.routeGone _ hu
  | routeClose src => cases next; exact hP.hearAddressed _ _ begun fun _ hu => hP.routeClosed hu
  | walkStep => cases next; exact hP.stepWalk begun
  | park src => cases next; exact hP.hearAddressed _ _ begun fun _ hu => hP.parkPost hu
  | run src => cases next; exact hP.hearAddressed _ _ begun fun _ hu => hP.runPost hu
  | reset src role => cases next; exact hP.hearQuery _ _ begun fun _ hu => hP.stationReset hu
  | configQuery src role => cases next; exact hP.hearQuery _ _ begun fun _ hu => hP.offer _ rfl hu
  | countQuery src role part => cases next; exact hP.hearQuery _ _ begun fun _ hu => hP.answerCount _ part hu
  | drainOpen src => cases next; exact hP.hearAddressed _ _ begun fun _ hu => hP.openDrain _ hu
  | commit src v => cases next; exact hP.hearAddressed _ _ begun fun _ hu => hP.commitDrain _ _ hu
  | drainClose src => cases next; exact hP.hearAddressed _ _ begun fun _ hu => hP.closeDrain _ hu
  | commitWaitExpiry => cases next; exact hP.commitWaitExpired begun
  | drainPostOffer =>
    cases next
    split
    · exact hP.offerDrainPost ‹_› begun
    · exact begun
  | promotion => cases next; exact hP.promote begun
  | statusTimerExpiry => cases next; exact hP.statusTimerExpired begun
  | silence n => cases next; exact hP.silenceExpired _ begun
  | ignFallingEdge => cases next; exact hP.ignFell (hP.aside h rfl rfl)
  | ignRisingEdge => cases next; exact hP.ignRose (hP.aside h rfl rfl)
  | wake quiet => cases next; exact hP.lineActive quiet begun
  | wakeSettleExpiry => cases next; exact hP.wakeSettled begun
  | parkReturnExpiry => cases next; exact hP.parkReturnExpired begun
  | enterSag mv => cases next; exact hP.judgeSag (hP.aside h rfl rfl)
  | returnToNormal mv => cases next; exact hP.judgeNormal (hP.aside h rfl rfl)
  | mainSupplyLoss cut => cases next; exact hP.loseMain cut h
  | startUp straps block ign mv => cases next; exact hP.started _ _ block _
  | backupSupplyLoss =>
    cases next
    split <;> exact hP.aside h rfl rfl

theorem step {t : State} (h : P s) (next : Machine.step s = .next t) : P t := by
  unfold Machine.step at next
  split at next
  · cases next
    exact hP.passTime 1 (hP.begin h)
  · rename_i i rest _
    have taken : P { s with pending := rest } := hP.aside h rfl rfl
    exact hP.exec i taken next

end LinkPromise

end Sys2Proof.Machine
end


section
/-! # Every step keeps the peer table sound (R92, R95) -/

namespace Sys2Proof.Machine

/-! ## What the promise reads of the main domain -/

/-- What R92 and R95 read of a state. -/
def State.identity (s : State) : Bool × Nat × Bool × List Peer := (s.powered, s.main.strap, s.main.mute, s.main.peers)

theorem State.identity_congr {s t : State} (powered : t.powered = s.powered) (main : t.main.strap = s.main.strap)
    (mute : t.main.mute = s.main.mute) (peers : t.main.peers = s.main.peers) : t.identity = s.identity := by
  simp only [State.identity, powered, main, mute, peers]

theorem State.PeersSound.congr {s t : State} (h : s.PeersSound) (same : t.identity = s.identity) : t.PeersSound := by
  simp only [State.identity, Prod.mk.injEq] at same
  obtain ⟨powered, strap, mute, peers⟩ := same
  simpa only [State.PeersSound, powered, strap, mute, peers] using h

section

variable (s : State)

@[simp] theorem State.setDrain_identity (d : Drain) : (s.setDrain d).identity = s.identity := rfl

@[simp] theorem State.setCurrent_identity (c : Option Current) : (s.setCurrent c).identity = s.identity := rfl

@[simp] theorem State.setLine_identity (l : LinkLine) : (s.setLine l).identity = s.identity := rfl

theorem State.offer_identity (p : Post) : (s.offer p).identity = s.identity := by
  rw [s.offer_frame p]
  rfl

@[simp] theorem State.markAll_identity (m : DrainMark) (l : List Nat) : (s.markAll m l).identity = s.identity := by
  simp [State.identity]

@[simp] theorem State.offerDrainPost_identity : s.offerDrainPost.identity = s.identity := by
  unfold State.offerDrainPost
  split
  · rfl
  · split <;> rfl

@[simp] theorem State.clearBatch_identity : s.clearBatch.identity = s.identity := by
  refine State.identity_congr s.clearBatch_sameHolding.powered ?_ ?_ ?_ <;> rw [State.clearBatch_main] <;> rfl

@[simp] theorem State.endDrain_identity : s.endDrain.identity = s.identity := by
  unfold State.endDrain
  split
  · rfl
  · exact s.clearBatch_identity

@[simp] theorem State.formBatch_identity : s.formBatch.identity = s.identity := by
  simp only [State.formBatch]
  split <;> simp

theorem State.openDrain_identity (src : Nat) : (s.openDrain src).identity = s.identity := by
  simp only [State.openDrain]
  split <;> simp

theorem State.commitDrain_identity (src v : Nat) : (s.commitDrain src v).identity = s.identity := by
  have committed : (s.committed v).identity = s.identity := by
    rw [State.committed_frame]
    rfl
  by_cases awaited : s.main.drain.state = .awaitCommit ∧ s.main.drain.dock = some src
  · obtain ⟨state, dock⟩ := awaited
    rw [State.commitDrain_of_awaited v state dock, State.formBatch_identity, State.setDrain_identity, committed]
  · rw [State.commitDrain, if_neg awaited]

theorem State.attemptDue_identity (quiet : Nat) : (s.attemptDue quiet).identity = s.identity := by
  unfold State.attemptDue
  split
  · split <;> rfl
  · split
    · rfl
    · split <;> rfl

@[simp] theorem State.clearedPostEnded_identity : s.clearedPostEnded.identity = s.identity := by
  simp only [State.clearedPostEnded]
  split <;> simp

@[simp] theorem State.tellSent_identity (c : Current) : (s.tellSent c).identity = s.identity := by
  unfold State.tellSent
  split
  · rfl
  · split <;> simp [State.recordTransmitted]
  · split
    · simp
    · unfold State.batchEndTransmitted
      split <;> simp
  · rfl

theorem State.attemptSent_identity : s.attemptSent.identity = s.identity := by
  unfold State.attemptSent
  split
  · rfl
  · split <;> simp

theorem State.attemptFailed_identity : s.attemptFailed.identity = s.identity := by
  unfold State.attemptFailed
  split
  · rfl
  · split
    · rfl
    · simp only
      split
      · split <;> simp
      · split
        · split
          · exact State.endDrain_identity _
          · rfl
        · rfl

end

/-! ## The operations that move a peer -/

namespace State.PeersSound

variable {s : State}

/-- A change of single peers, each in its own place, that neither wakes nor silences this station's own entry. -/
theorem change {t : State} (h : s.PeersSound) (f : Peer → Peer) (powered : t.powered = s.powered)
    (strap : t.main.strap = s.main.strap) (mute : s.main.mute = true → t.main.mute = true)
    (peers : t.main.peers = s.main.peers.map f) (station : ∀ p, (f p).station = p.station)
    (own : ∀ p ∈ s.main.peers, p.station = s.main.strap → p.presence = .absent → p.silence = none →
      (f p).presence = .absent ∧ (f p).silence = none)
    (role : ∀ p, (p.presence = .absent → p.role = none) → (f p).presence = .absent → (f p).role = none) :
    t.PeersSound := by
  intro on
  obtain ⟨stations, owns, roles, mutes⟩ := h (powered ▸ on)
  simp only [strap, peers, List.forall_mem_map, station, List.map_map]
  refine ⟨?_, fun p hp mine => ?_, fun p hp => role p (roles p hp), fun zero => mute (mutes zero)⟩
  · rw [← stations]
    exact List.map_congr_left fun p _ => station p
  · obtain ⟨absent, stopped⟩ := owns p hp mine
    exact own p hp mine absent stopped

theorem passTime (n : Nat) (h : s.PeersSound) : (s.passTime n).PeersSound := by
  by_cases on : s.powered = true
  · refine h.change (·.passTime n) rfl (s.passTime_strap n) (fun mute => (s.passTime_mute n).trans mute) ?_
      (fun _ => rfl) (fun p _ _ absent stopped => ⟨absent, ?_⟩) fun _ role => role
    · rw [State.passTime_main, if_pos on]
      rfl
    · simp [Peer.passTime, Timer.pass, stopped]
  · exact fun k => absurd k on

theorem hearPeer (src : Nat) (role : Role) (foreign : src ≠ s.main.strap) (h : s.PeersSound) :
    (s.hearPeer src role).PeersSound := by
  refine h.change _ rfl rfl id rfl (fun p => ?_) (fun p _ mine absent stopped => ?_) fun p role => ?_
  · split <;> rfl
  · rw [if_neg (mine ▸ foreign.symm)]
    exact ⟨absent, stopped⟩
  · split
    · exact fun present => Presence.noConfusion present
    · exact role

theorem enterMute (h : s.PeersSound) : s.enterMute.PeersSound :=
  h.change id rfl rfl (fun _ => rfl) (List.map_id _).symm (fun _ => rfl) (fun _ _ _ absent stopped => ⟨absent, stopped⟩)
    fun _ role => role

/-- Silence reaches a station whose timer runs, and so never this one. -/
theorem silencePeer (n left : Nat) (runs : s.silenceTimer n = some left) (h : s.PeersSound) :
    ((s.passTime left).silencePeer n).PeersSound := by
  intro on
  have foreign : n ≠ s.main.strap := by
    rintro rfl
    obtain ⟨-, owns, -⟩ := h on
    unfold State.silenceTimer at runs
    split at runs
    · rename_i p found
      obtain ⟨-, stopped⟩ := owns p (List.mem_of_find?_eq_some found) (by simpa using List.find?_some found)
      simp [stopped] at runs
    · simp at runs
  refine (h.passTime left).change _ rfl rfl id rfl (fun p => ?_) (fun p _ mine absent stopped => ?_) (fun p role => ?_) on
  · split <;> rfl
  · rw [if_neg (mine.trans (s.passTime_strap left) ▸ foreign.symm)]
    exact ⟨absent, stopped⟩
  · split
    · exact fun silent => Presence.noConfusion silent
    · exact role

theorem of_freshPeers {t : State} {silence : Nat} (peers : t.main.peers = freshPeers t.main.strap silence)
    (mute : t.main.mute = decide (t.main.strap = 0)) : t.PeersSound := by
  intro
  rw [peers, mute]
  refine ⟨by simp [freshPeers], ?_, ?_, decide_eq_true⟩
  · simp only [freshPeers, List.forall_mem_map]
    exact fun n _ mine => ⟨trivial, if_pos mine⟩
  · simp only [freshPeers, List.forall_mem_map]
    exact fun _ _ _ => trivial

end State.PeersSound

theorem peersSound_promise : LinkPromise State.PeersSound where
  aside h powered link := h.congr <| State.identity_congr powered (congrArg LinkBlocks.strap link)
    (congrArg LinkBlocks.mute link) (congrArg LinkBlocks.peers link)
  passTime n h := h.passTime n
  offer p _ h := h.congr (State.offer_identity _ p)
  withdraw _ _ h := h.congr rfl
  promoteTo _ _ _ h := h.congr rfl
  hearPeer src role foreign h := h.hearPeer src role foreign
  enterMute h := h.enterMute
  silencePeer n left runs h := h.silencePeer n left runs
  attemptDue quiet h := h.congr (State.attemptDue_identity _ quiet)
  attemptSent h := h.congr (State.attemptSent_identity _)
  attemptFailed h := h.congr (State.attemptFailed_identity _)
  openDrain src h := h.congr (State.openDrain_identity _ src)
  endDrain h := h.congr (State.endDrain_identity _)
  commitDrain src v h := h.congr (State.commitDrain_identity _ src v)
  offerDrainPost _ h := h.congr (State.offerDrainPost_identity _)
  stationReset {s} _ := by
    refine State.PeersSound.of_freshPeers (silence := s.main.cfg.peerSilence * 1000) ?_ ?_ <;>
      rw [State.stationReset_main] <;> rfl
  started s strap block pins := by
    refine State.PeersSound.of_freshPeers (silence := (readConfig block).settings.peerSilence * 1000) ?_ ?_ <;>
      rw [State.started, State.offerStatus_frame] <;> rfl
  lost off _ on := absurd (off.symm.trans on) Bool.false_ne_true

/-- Settles O57. -/
theorem peerTableIsKeptSound : Obligations.PeerTableIsKeptSound := by
  unfold Obligations.PeerTableIsKeptSound
  exact fun s t sound next => peersSound_promise.step sound next

end Sys2Proof.Machine
end


section
/-! # The transmit queue: what an offer makes of it, and the head it gives up (R80 to R82) -/

namespace Sys2Proof.Machine

/-! ## What replaces and what is withdrawn -/

/-- No post replaces a drain post (R82). -/
theorem PostBody.isDrain_of_replaces {new old : PostBody} (h : new.replaces old = true) : old.isDrain = false := by
  simp only [PostBody.replaces, Bool.or_eq_true, Bool.and_eq_true, beq_iff_eq] at h
  cases old with
  | record | batchEnd =>
    rcases h with ⟨-, status⟩ | ⟨meter, same⟩
    · simp [PostBody.isStatus] at status
    · rw [same] at meter
      simp [PostBody.claimMeter] at meter
  | _ => rfl

theorem PostBody.countsBatch_of_not_drain {b : PostBody} (h : b.isDrain = false) (d : Drain) : b.CountsBatch d := by
  rintro n ends rfl
  exact Bool.noConfusion h

/-- The current post once replacement or withdrawal has reached it (R82, R83). -/
theorem mem_bind_reach {hit : PostBody → Bool} {current : Option Current} {c' : Current} :
    c' ∈ current.bind (Current.reach hit) ↔ ∃ c ∈ current, (hit c.post.body = false ∧ c' = c) ∨
      (hit c.post.body = true ∧ c.attempt.isSome = true ∧ c' = { c with dropAtLoss := true }) := by
  cases current with
  | none => simp
  | some c =>
    simp only [Option.bind_some, Current.reach, Option.mem_some_iff, exists_eq_left']
    cases hits : hit c.post.body
    · simp [@eq_comm _ c']
    · cases attempt : c.attempt
      · simp
      · simp [@eq_comm _ c']

/-! ## The queue after an entry -/

theorem drainPosts_filter {hit : PostBody → Bool} (other : ∀ b, hit b = true → b.isDrain = false) (q : List Post) :
    drainPosts (q.filter fun x => !hit x.body) = drainPosts q := by
  rw [drainPosts, drainPosts, List.countP_filter]
  refine List.countP_congr fun x _ => ?_
  cases hits : hit x.body
  · simp
  · simp [other _ hits]

theorem Main.QueueSound.sublist {m : Main} (h : m.QueueSound) {queue : List Post} (sub : queue.Sublist m.queue) :
    ({ m with queue := queue } : Main).QueueSound := by
  obtain ⟨length, status, claims, drains⟩ := h
  exact ⟨sub.length_le.trans length, (sub.countP_le ..).trans status, claims.sublist (sub.filterMap _),
    (sub.countP_le ..).trans drains⟩

/-- A post enters a queue that has a place for it, or gives it one (R80 to R82). -/
theorem Main.QueueSound.enqueue {s : State} (h : s.main.QueueSound) (p : Post)
    (place : s.takesOffer p = true) (drains : drainPosts s.main.queue + p.body.isDrain.toNat ≤ 1) :
    (s.enqueue p).main.QueueSound := by
  obtain ⟨length, status, claims, -⟩ := h
  have sub : (s.main.queue.filter fun x => !p.body.replaces x.body).Sublist s.main.queue := List.filter_sublist
  have kept {x : Post} (hx : x ∈ s.main.queue.filter fun x => !p.body.replaces x.body) :
      p.body.replaces x.body = false := by simpa using (List.mem_filter.1 hx).2
  rw [State.enqueue_main]
  refine ⟨?_, ?_, ?_, ?_⟩
  · simp only [List.length_append, List.length_singleton]
    simp only [State.takesOffer, Bool.or_eq_true, List.any_eq_true, decide_eq_true_eq] at place
    rcases place with ⟨x, hx, replaced⟩ | room
    · have fewer := List.length_filter_lt_length_iff_exists (p := fun x => !p.body.replaces x.body) |>.2
        ⟨x, hx, by simp [replaced]⟩
      exact Nat.lt_of_lt_of_le fewer length
    · exact Nat.lt_of_le_of_lt sub.length_le room
  · simp only [List.countP_append, List.countP_singleton]
    split
    · rename_i isStatus
      rw [List.countP_eq_zero.2 fun x hx old => ?_]
      simpa [PostBody.replaces, isStatus, old] using kept hx
    · exact (sub.countP_le ..).trans status
  · simp only [claimMeters, List.filterMap_append, List.nodup_append]
    refine ⟨claims.sublist (sub.filterMap _), ?_, fun a ha b hb => ?_⟩
    · simp only [List.filterMap_cons, List.filterMap_nil]
      split <;> simp
    · rintro rfl
      obtain ⟨x, hx, old⟩ := List.mem_filterMap.1 ha
      have new : p.body.claimMeter = some a := by simpa using hb
      simpa [PostBody.replaces, new, old] using kept hx
  · simp only [drainPosts, List.countP_append, List.countP_singleton]
    have one : (if p.body.isDrain = true then 1 else 0) = p.body.isDrain.toNat := by cases p.body.isDrain <;> rfl
    rw [one]
    exact (Nat.add_le_add_right (sub.countP_le ..) _).trans drains

/-! ## The head of the queue -/

theorem takeClass_eq_none_iff {k : Nat} {q : List Post} : takeClass k q = none ↔ ∀ x ∈ q, x.body.cls ≠ k := by
  unfold takeClass
  split
  · rename_i p found
    have member := List.mem_of_find?_eq_some found
    have cls : p.body.cls = k := by simpa using List.find?_some found
    simpa using ⟨p, member, cls⟩
  · rename_i missing
    simpa using missing

/-- The oldest post of a class, with what stands before it and after it. -/
theorem takeClass_eq_some {k : Nat} {q rest : List Post} {p : Post} (h : takeClass k q = some (p, rest)) :
    p.body.cls = k ∧ ∃ before after, q = before ++ p :: after ∧ rest = before ++ after ∧
      ∀ x ∈ before, x.body.cls ≠ k := by
  unfold takeClass at h
  split at h
  · rename_i p' found
    obtain ⟨rfl, rfl⟩ : p' = p ∧ (q.eraseP fun x => x.body.cls == k) = rest := by simpa using h
    obtain ⟨cls, before, after, rfl, other⟩ := List.find?_eq_some_iff_append.1 found
    refine ⟨by simpa using cls, before, after, rfl, ?_, by simpa using other⟩
    rw [List.eraseP_append_right _ (by simpa using other), List.eraseP_cons_of_pos (by exact cls)]
  · simp at h

theorem PostBody.cls_le (b : PostBody) : b.cls ≤ 4 := by
  cases b <;> simp [PostBody.cls]

/-- The head is the oldest post of the lowest class that holds any (R80). -/
theorem takeHead_eq_some {q : List Post} {r : Post × List Post} (h : takeHead q = some r) :
    ∃ k, takeClass k q = some r ∧ ∀ x ∈ q, k ≤ x.body.cls := by
  simp only [takeHead, Option.or_eq_some_iff, takeClass_eq_none_iff] at h
  rcases h with h | ⟨n0, h | ⟨n1, h | ⟨n2, h | ⟨n3, h⟩⟩⟩⟩
  · exact ⟨0, h, fun _ _ => Nat.zero_le _⟩
  · exact ⟨1, h, fun x hx => Nat.pos_of_ne_zero (n0 x hx)⟩
  · refine ⟨2, h, fun x hx => ?_⟩
    have := n0 x hx
    have := n1 x hx
    omega
  · refine ⟨3, h, fun x hx => ?_⟩
    have := n0 x hx
    have := n1 x hx
    have := n2 x hx
    omega
  · refine ⟨4, h, fun x hx => ?_⟩
    have := n0 x hx
    have := n1 x hx
    have := n2 x hx
    have := n3 x hx
    omega

theorem takeHead_eq_none_iff {q : List Post} : takeHead q = none ↔ q = [] := by
  simp only [takeHead, Option.or_eq_none_iff, takeClass_eq_none_iff]
  constructor
  · rintro ⟨n0, n1, n2, n3, n4⟩
    refine List.eq_nil_iff_forall_not_mem.2 fun x hx => ?_
    have := n0 x hx
    have := n1 x hx
    have := n2 x hx
    have := n3 x hx
    have := n4 x hx
    have := x.body.cls_le
    omega
  · rintro rfl
    simp

/-- The head leaves the queue, and the posts before it and after it stay in their order. -/
theorem takeHead_split {q rest : List Post} {p : Post} (h : takeHead q = some (p, rest)) :
    ∃ before after, q = before ++ p :: after ∧ rest = before ++ after := by
  obtain ⟨k, taken, -⟩ := takeHead_eq_some h
  obtain ⟨-, before, after, e, rest, -⟩ := takeClass_eq_some taken
  exact ⟨before, after, e, rest⟩

/-- Settles O20. -/
theorem queueHeadIsOldestOfLowestClass : Obligations.QueueHeadIsOldestOfLowestClass := by
  unfold Obligations.QueueHeadIsOldestOfLowestClass
  refine fun q => ⟨takeHead_eq_none_iff, fun p rest h => ?_⟩
  obtain ⟨k, taken, lowest⟩ := takeHead_eq_some h
  obtain ⟨rfl, before, after, rfl, rest, older⟩ := takeClass_eq_some taken
  refine ⟨before, after, rfl, rest, fun x hx => ?_, fun x hx => lowest x (by simp [hx])⟩
  exact Nat.lt_of_le_of_ne (lowest x (by simp [hx])) (older x hx).symm

/-! ## An offer -/

theorem PostBody.claimMeter_eq_some_iff {b : PostBody} {m : MeterId} :
    b.claimMeter = some m ↔ (∃ q h, b = .claim m q h) ∨ b = .yield m := by
  cases b <;> simp [PostBody.claimMeter, eq_comm]

theorem PostBody.isStatus_iff {b : PostBody} : b.isStatus = true ↔ b = .status := by
  cases b <;> simp [PostBody.isStatus]

/-- Two STATUS, or two posts for one meter (R82). -/
theorem PostBody.replaces_iff (new old : PostBody) : new.replaces old = true ↔
    (new = .status ∧ old = .status) ∨ ∃ m, new.claimMeter = some m ∧ old.claimMeter = some m := by
  simp only [PostBody.replaces, Bool.or_eq_true, Bool.and_eq_true, beq_iff_eq, PostBody.isStatus_iff,
    Option.isSome_iff_exists]
  refine or_congr Iff.rfl ⟨fun ⟨⟨m, new⟩, same⟩ => ⟨m, new, same ▸ new⟩, fun ⟨m, new, old⟩ => ⟨⟨m, new⟩, ?_⟩⟩
  rw [new, old]

theorem Current.reach_of_other {hit : PostBody → Bool} {c : Current} (other : hit c.post.body = false) :
    c.reach hit = some c := by
  simp [Current.reach, other]

theorem Current.reach_between_attempts {hit : PostBody → Bool} {c : Current} (hits : hit c.post.body = true)
    (between : c.attempt = none) : c.reach hit = none := by
  simp [Current.reach, hits, between]

theorem Current.reach_in_attempt {hit : PostBody → Bool} {c : Current} (hits : hit c.post.body = true)
    (driving : c.attempt ≠ none) : c.reach hit = some { c with dropAtLoss := true } := by
  obtain ⟨bytes, attempt⟩ := Option.ne_none_iff_exists'.1 driving
  simp [Current.reach, hits, attempt]

theorem State.takesOffer_iff (s : State) (p : Post) : s.takesOffer p = true ↔
    (∃ x ∈ s.main.queue, p.body.replaces x.body = true) ∨ s.main.queue.length < 16 := by
  simp only [State.takesOffer, Bool.or_eq_true, List.any_eq_true, decide_eq_true_eq]
  exact Iff.rfl

/-- Settles O19: an offer is refused, or taken with the posts it replaces reached in the queue and the transmitter. -/
theorem offeredPostEntersReplacesOrIsRefused : Obligations.OfferedPostEntersReplacesOrIsRefused := by
  unfold Obligations.OfferedPostEntersReplacesOrIsRefused
  refine ⟨fun s p => ⟨fun unreplaced full => ?_, fun place => ?_⟩, fun new old => ?_⟩
  · have refused : ¬ s.takesOffer p = true := by
      rw [State.takesOffer_iff]
      rintro (⟨x, hx, replaced⟩ | room)
      · simp [unreplaced x hx] at replaced
      · omega
    rw [State.offer, if_neg refused]
  · rw [State.offer, if_pos ((s.takesOffer_iff p).2 place)]
    refine congrArg (fun c => ({ s with main := { s.main with
      queue := s.main.queue.filter (fun x => !p.body.replaces x.body) ++ [p], current := c } } : State)) ?_
    rw [State.enqueue_main]
    cases current : s.main.current with
    | none => rfl
    | some c =>
      simp only [Option.bind_some]
      split
      · exact Current.reach_of_other ‹_›
      · rename_i hits
        have hits : p.body.replaces c.post.body = true := Bool.eq_true_of_not_eq_false hits
        split
        · exact Current.reach_between_attempts hits ‹_›
        · exact Current.reach_in_attempt hits ‹_›
  · simp only [PostBody.replaces_iff, PostBody.claimMeter_eq_some_iff]

end Sys2Proof.Machine
end


section
/-! # Every step keeps the transmit queue and the drain post sound (R80, R165, R169) -/

namespace Sys2Proof.Machine

/-- The queue, the transmitter and the drain engine are sound together. -/
def Main.Linked (m : Main) : Prop := m.LinkSound ∧ m.drain.Sound

/-- What R78 and R82 promise of the current post, whatever the engine does. -/
def Current.Sound (c : Current) : Prop := c.losses < lossLimit ∧ (c.dropAtLoss = true → c.attempt.isSome = true)

/-- The engine's post has been dealt with by where it stood (R166): none is WAITING or in the queue, and a drain post
that is still CURRENT runs out its attempt as dropped. -/
structure Main.PostCleared (m : Main) : Prop where
  queue : m.QueueSound
  unqueued : drainPosts m.queue = 0
  place : m.drain.post = .none ∨ m.drain.post = .current
  current : m.drain.post = .current ↔ ∃ c ∈ m.current, c.post.body.isDrain = true
  sound : ∀ c ∈ m.current, c.Sound ∧ (c.post.body.isDrain = true → c.dropAtLoss = true)

/-- The engine's next post is a drain post, and a BATCH-END of the present batch counts it (R169). -/
theorem State.nextDrainBody_cases {s : State} {b : PostBody} (h : s.nextDrainBody = some b) :
    b.isDrain = true ∧ b.CountsBatch s.main.drain := by
  unfold State.nextDrainBody at h
  split at h
  · obtain ⟨x, -, rfl⟩ := Option.map_eq_some_iff.1 h
    exact ⟨rfl, fun _ _ => PostBody.noConfusion⟩
  · cases h
    exact ⟨rfl, by rintro _ _ ⟨⟩; rfl⟩

namespace Main.Linked

variable {m : Main} {s : State}

theorem congr {m' : Main} (h : m.Linked) (queue : m'.queue = m.queue) (current : m'.current = m.current)
    (drain : m'.drain = m.drain) : m'.Linked := by
  simpa only [Main.Linked, Main.LinkSound, Main.QueueSound, Main.TransmitterAgrees, queue, current, drain] using h

/-- Nothing queued, nothing current, and the engine at rest. -/
theorem of_empty (queue : m.queue = []) (current : m.current = none) (drain : m.drain = idleDrain) : m.Linked := by
  simp [Main.Linked, Main.LinkSound, Main.QueueSound, Main.TransmitterAgrees, Drain.Sound, queue, current, drain,
    idleDrain, claimMeters, drainPosts]

/-! ## Posts of other blocks -/

/-- A change of the queue and the current post by posts that are none of the engine's. -/
theorem other {queue : List Post} {hit : PostBody → Bool} (h : m.Linked)
    (others : ∀ b, hit b = true → b.isDrain = false)
    (sound : ({ m with queue := queue } : Main).QueueSound) (drains : drainPosts queue = drainPosts m.queue)
    (mem : ∀ x ∈ queue, x ∈ m.queue ∨ x.body.isDrain = false) :
    ({ m with queue := queue, current := m.current.bind (Current.reach hit) } : Main).Linked := by
  obtain ⟨⟨-, count, currentIff, idle, awaiting, counts, current⟩, engine⟩ := h
  refine ⟨⟨sound, drains.trans count, currentIff.trans ⟨?_, ?_⟩, idle, awaiting, fun x hx => ?_, ?_⟩, engine⟩
  · rintro ⟨c, hc, isDrain⟩
    refine ⟨c, mem_bind_reach.2 ⟨c, hc, .inl ⟨Bool.eq_false_iff.2 fun hits => ?_, rfl⟩⟩, isDrain⟩
    simp [others _ hits] at isDrain
  · rintro ⟨c', hc', isDrain⟩
    obtain ⟨c, hc, ⟨-, rfl⟩ | ⟨-, -, rfl⟩⟩ := mem_bind_reach.1 hc'
    · exact ⟨c', hc, isDrain⟩
    · exact ⟨c, hc, isDrain⟩
  · rcases mem x hx with old | other
    · exact counts x old
    · exact PostBody.countsBatch_of_not_drain other _
  · intro c' hc'
    obtain ⟨c, hc, ⟨-, rfl⟩ | ⟨hits, attempt, rfl⟩⟩ := mem_bind_reach.1 hc'
    · exact current c' hc
    · obtain ⟨losses, -⟩ := current c hc
      exact ⟨losses, fun _ => attempt, fun isDrain => by simp [others _ hits] at isDrain⟩

theorem withdraw (hit : PostBody → Bool) (others : ∀ b, hit b = true → b.isDrain = false) (h : s.main.Linked) :
    (s.withdraw hit).main.Linked := by
  rw [State.withdraw_main]
  exact h.other others (h.1.1.sublist List.filter_sublist) (drainPosts_filter others _) fun x hx => .inl (List.mem_filter.1 hx).1

theorem enqueue_reach (p : Post) (place : s.takesOffer p = true) (notDrain : p.body.isDrain = false)
    (h : s.main.Linked) : ((s.enqueue p).reachCurrent p.body.replaces).main.Linked := by
  have others (b : PostBody) : p.body.replaces b = true → b.isDrain = false := PostBody.isDrain_of_replaces
  obtain ⟨⟨queue, -⟩, -⟩ := id h
  obtain ⟨-, -, -, drains⟩ := id queue
  refine h.other others (queue.enqueue p place (by simpa [notDrain] using drains)) ?_ fun x hx => ?_
  · have filtered := drainPosts_filter others s.main.queue
    simpa [drainPosts, List.countP_append, notDrain] using filtered
  · rcases List.mem_append.1 hx with old | new
    · exact .inl (List.mem_filter.1 old).1
    · exact .inr (List.mem_singleton.1 new ▸ notDrain)

theorem offer (p : Post) (notDrain : p.body.isDrain = false) (h : s.main.Linked) : (s.offer p).main.Linked := by
  rcases s.offer_cases p with ⟨place, e⟩ | ⟨-, e⟩ <;> rw [e]
  · exact h.enqueue_reach p place notDrain
  · exact h

theorem offerStatus (h : s.main.Linked) : s.offerStatus.main.Linked :=
  (h.offer { mask := maskAll, body := .status } rfl).congr rfl rfl rfl

/-- An ALERT replaces no post, so that it enters a queue with room and reaches no current post. -/
theorem promoteTo (i : Fin 4) (x : Record) (room : s.queueRoom = true) (h : s.main.Linked) :
    (s.promoteTo i x).main.Linked := by
  have place : s.takesOffer (alertPost s.ret i x) = true := Bool.or_eq_true_iff.2 (.inr room)
  refine (h.enqueue_reach _ place rfl).congr rfl ?_ rfl
  have never : (alertPost s.ret i x).body.replaces = fun _ => false := rfl
  rw [State.reachCurrent_main, never, Current.reach_never]
  rfl

/-! ## The drain engine -/

/-- Of a state whose engine holds no post back, every drain post has been dealt with. -/
theorem postCleared (h : m.Linked) (place : m.drain.post = .none ∨ m.drain.state ≠ .sending) : m.PostCleared := by
  obtain ⟨⟨queue, count, currentIff, idle, awaiting, -, current⟩, -⟩ := h
  have held : m.drain.post = .none ∨ m.drain.post = .current := by
    rcases place with none | elsewhere
    · exact .inl none
    · cases state : m.drain.state with
      | idle => exact idle state
      | sending => exact absurd state elsewhere
      | awaitCommit => exact .inl (awaiting state)
  refine ⟨queue, ?_, held, currentIff, fun c hc => ?_⟩
  · rw [count]
    rcases held with e | e <;> simp [e]
  · obtain ⟨losses, attempt, kept⟩ := current c hc
    refine ⟨⟨losses, attempt⟩, fun isDrain => ?_⟩
    cases drop : c.dropAtLoss
    · have isCurrent := currentIff.2 ⟨c, hc, isDrain⟩
      obtain ⟨sending, -⟩ := kept isDrain drop
      rcases place with none | elsewhere
      · simp [none] at isCurrent
      · exact absurd sending elsewhere
    · rfl

/-- Dealing with the engine's post by where it stands leaves none of them behind (R166). -/
theorem withoutDrainPost (h : m.Linked) : m.withoutDrainPost.PostCleared := by
  obtain ⟨⟨queue, count, currentIff, -, -, -, current⟩, -⟩ := h
  have sound (c : Current) (hc : c ∈ m.current) : c.Sound := by
    obtain ⟨losses, attempt, -⟩ := current c hc
    exact ⟨losses, attempt⟩
  have foreign (elsewhere : m.drain.post ≠ .current) (c : Current) (hc : c ∈ m.current) : c.post.body.isDrain = false :=
    Bool.eq_false_iff.2 fun isDrain => elsewhere (currentIff.2 ⟨c, hc, isDrain⟩)
  have reached (c' : Current) (hc' : c' ∈ m.current.bind (Current.reach PostBody.isDrain)) :
      c'.Sound ∧ (c'.post.body.isDrain = true → c'.dropAtLoss = true) := by
    obtain ⟨c, hc, ⟨other, rfl⟩ | ⟨-, attempt, rfl⟩⟩ := mem_bind_reach.1 hc'
    · exact ⟨sound c' hc, fun isDrain => by simp [other] at isDrain⟩
    · exact ⟨⟨(sound c hc).1, fun _ => attempt⟩, fun _ => rfl⟩
  cases post : m.drain.post with
  | none | waiting =>
    have e : m.withoutDrainPost = { m with drain := { m.drain with post := .none } } := by
      simp [Main.withoutDrainPost, post]
    have foreign := foreign (by simp [post])
    rw [e]
    refine ⟨queue, count.trans (by simp [post]), .inl rfl, ⟨DrainPost.noConfusion, ?_⟩, fun c hc => ⟨sound c hc, ?_⟩⟩
    · rintro ⟨c, hc, isDrain⟩
      simp [foreign c hc] at isDrain
    · simp [foreign c hc]
  | queued =>
    have e : m.withoutDrainPost = { m with
        queue := m.queue.filter fun p => !p.body.isDrain
        current := m.current.bind (Current.reach PostBody.isDrain), drain := { m.drain with post := .none } } := by
      simp [Main.withoutDrainPost, post]
    rw [e]
    refine ⟨queue.sublist List.filter_sublist, ?_, .inl rfl, ⟨DrainPost.noConfusion, ?_⟩, reached⟩
    · simp [drainPosts]
    · rintro ⟨c', hc', isDrain⟩
      obtain ⟨c, hc, ⟨-, rfl⟩ | ⟨hits, -⟩⟩ := mem_bind_reach.1 hc'
      · simp [foreign (by simp [post]) c' hc] at isDrain
      · simp [foreign (by simp [post]) c hc] at hits
  | current =>
    obtain ⟨c, hc, isDrain⟩ := currentIff.1 post
    have is : m.current = some c := hc
    have e : m.withoutDrainPost = { m with
        current := m.current.bind (Current.reach PostBody.isDrain)
        drain := { m.drain with post := if c.attempt.isSome = true then .current else .none } } := by
      simp [Main.withoutDrainPost, post, is]
    rw [e]
    refine ⟨queue, count.trans (by simp [post]), ?_, ?_, reached⟩
    · cases c.attempt
      · exact .inl rfl
      · exact .inr rfl
    · simp only [mem_bind_reach, is, Option.mem_some_iff, exists_eq_left', isDrain]
      cases c.attempt
      · simp
      · simp [isDrain]

/-- Once the engine's post has been dealt with, the engine may be set to any sound state that awaits no COMMIT beside a
post still CURRENT. -/
theorem of_postCleared (h : m.PostCleared) {d : Drain} (sound : d.Sound) (post : d.post = m.drain.post)
    (awaiting : d.state = .awaitCommit → d.post = .none) : ({ m with drain := d } : Main).Linked := by
  have unqueued : d.post ≠ .queued := by
    rcases h.place with e | e <;> simp [post, e]
  refine ⟨⟨h.queue, ?_, post ▸ h.current, fun _ => post ▸ h.place, awaiting, fun x hx => ?_, fun c hc => ?_⟩, sound⟩
  · simp [h.unqueued, unqueued]
  · exact PostBody.countsBatch_of_not_drain (Bool.eq_false_iff.2 (List.countP_eq_zero.1 h.unqueued x hx)) _
  · obtain ⟨⟨losses, attempt⟩, dropped⟩ := h.sound c hc
    exact ⟨losses, attempt, fun isDrain kept => Bool.noConfusion (kept.symm.trans (dropped isDrain))⟩

/-- While no drain post is current, the engine in SENDING has its post in the queue or holds it WAITING. -/
theorem of_offered (queue : m.QueueSound) (count : drainPosts m.queue = if m.drain.post = .queued then 1 else 0)
    (place : m.drain.post = .queued ∨ m.drain.post = .waiting) (sending : m.drain.state = .sending)
    (counts : ∀ p ∈ m.queue, p.body.CountsBatch m.drain) (foreign : ∀ c ∈ m.current, c.Sound ∧ c.post.body.isDrain = false)
    (engine : m.drain.Sound) : m.Linked := by
  refine ⟨⟨queue, count, ⟨fun e => ?_, fun ⟨c, hc, isDrain⟩ => ?_⟩, by simp [sending], by simp [sending], counts,
    fun c hc => ?_⟩, engine⟩
  · rcases place with e' | e' <;> simp [e'] at e
  · simp [(foreign c hc).2] at isDrain
  · obtain ⟨⟨losses, attempt⟩, other⟩ := foreign c hc
    exact ⟨losses, attempt, by simp [other]⟩

/-- The engine's next post enters the queue, or waits for a place (R169). -/
theorem offerDrainPost (h : s.main.Linked) (sending : s.main.drain.state = .sending)
    (place : s.main.drain.post = .none ∨ s.main.drain.post = .waiting) : s.offerDrainPost.main.Linked := by
  obtain ⟨⟨queue, count, currentIff, -, -, counts, current⟩, engine⟩ := id h
  have unqueued : drainPosts s.main.queue = 0 := by
    rw [count]
    rcases place with e | e <;> simp [e]
  have foreign (c : Current) (hc : c ∈ s.main.current) : c.Sound ∧ c.post.body.isDrain = false := by
    obtain ⟨losses, attempt, -⟩ := current c hc
    refine ⟨⟨losses, attempt⟩, Bool.eq_false_iff.2 fun isDrain => ?_⟩
    have isCurrent := currentIff.2 ⟨c, hc, isDrain⟩
    rcases place with e | e <;> simp [e] at isCurrent
  unfold State.offerDrainPost
  split
  · exact h
  · rename_i b next
    obtain ⟨isDrain, countsBatch⟩ := State.nextDrainBody_cases next
    split
    · rename_i room
      let p : Post := { mask := maskOf (s.main.drain.dock.getD 0), body := b }
      have entered : (s.enqueue p).main.QueueSound :=
        queue.enqueue p (Bool.or_eq_true_iff.2 (.inr room)) (by simp [unqueued, p, isDrain])
      have filtered := drainPosts_filter (hit := b.replaces) (fun _ => PostBody.isDrain_of_replaces) s.main.queue
      refine of_offered entered ?_ (.inl rfl) sending (fun x hx => ?_) foreign engine
      · simp only [drainPosts, State.setDrain_main, State.enqueue_main, List.countP_append, if_true] at filtered unqueued ⊢
        simp [filtered, unqueued, isDrain]
      · rcases List.mem_append.1 hx with old | new
        · exact counts x (List.mem_filter.1 old).1
        · obtain rfl := List.mem_singleton.1 new
          exact countsBatch
    · exact of_offered queue unqueued (.inr rfl) sending counts foreign engine

/-! ## Batches -/

/-- Clearing a batch leaves the engine's post dealt with (R166). -/
theorem clearBatch (h : s.main.Linked) : s.clearBatch.main.PostCleared := by
  obtain ⟨queue, unqueued, place, current, sound⟩ := h.withoutDrainPost
  rw [State.clearBatch_main]
  exact ⟨queue, unqueued, place, current, sound⟩

theorem endDrain (h : s.main.Linked) : s.endDrain.main.Linked := by
  unfold State.endDrain
  split
  · exact h
  · have stopped : s.clearBatch.main.drain.commitWait = none ∧ s.clearBatch.main.drain.batch = [] := by
      rw [State.clearBatch_main]
      exact ⟨rfl, rfl⟩
    obtain ⟨wait, batch⟩ := stopped
    exact of_postCleared h.clearBatch ⟨fun _ => ⟨rfl, batch⟩, fun busy => absurd rfl busy, by simp [wait]⟩ rfl
      DrainState.noConfusion

/-- A batch is formed for a dock once the engine's post has been dealt with and the commit wait is stopped (R168). -/
theorem formBatch (h : s.main.PostCleared) (dock : s.main.drain.dock.isSome = true)
    (wait : s.main.drain.commitWait = none) : s.formBatch.main.Linked := by
  let d : Drain := { s.main.drain with batch := s.ret.batchChoice, position := 0, state := .sending }
  have formed : ({ s.main with drain := d } : Main).Linked :=
    of_postCleared h ⟨DrainState.noConfusion, fun _ => dock, by simp [d, wait]⟩ rfl DrainState.noConfusion
  have main : ((s.markAll .sentInBatch s.ret.batchChoice).setDrain
      { (s.markAll .sentInBatch s.ret.batchChoice).main.drain with
        batch := s.ret.batchChoice, position := 0, state := .sending }).main = { s.main with drain := d } := by
    simp [d]
  simp only [State.formBatch]
  split
  · rwa [main]
  · rename_i elsewhere
    refine offerDrainPost (main ▸ formed) rfl (.inl ?_)
    rw [main] at elsewhere ⊢
    exact h.place.resolve_right elsewhere

theorem openDrain (src : Nat) (h : s.main.Linked) : (s.openDrain src).main.Linked := by
  simp only [State.openDrain]
  split
  · rename_i idle
    obtain ⟨queue, unqueued, place, current, sound⟩ := h.postCleared (.inr (by simp [idle]))
    obtain ⟨-, -, -, waits⟩ := h
    refine formBatch ⟨queue, unqueued, place, current, sound⟩ rfl ?_
    simpa [idle] using waits
  · obtain ⟨queue, unqueued, place, current, sound⟩ := h.clearBatch
    refine formBatch ⟨queue, unqueued, place, current, sound⟩ rfl ?_
    rw [State.clearBatch_main]
    rfl

theorem releaseAlert (q : Nat) (a : AlertState) (h : s.main.Linked) : (s.releaseAlert q a).main.Linked := by
  cases a with
  | none | acked => exact h
  | pending => exact h.congr rfl rfl rfl
  | slotted =>
    simp only [State.releaseAlert]
    split
    · refine withdraw (s := { s with main := _ }) _ (fun b hit => ?_) (h.congr rfl rfl rfl)
      cases b <;> simp_all [isAlertOf, PostBody.isDrain]
    · exact h.congr rfl rfl rfl

theorem commitDrain (src v : Nat) (h : s.main.Linked) : (s.commitDrain src v).main.Linked := by
  by_cases awaited : s.main.drain.state = .awaitCommit ∧ s.main.drain.dock = some src
  · obtain ⟨state, dock⟩ := awaited
    have released (l : List (Nat × AlertState)) {u : State} (hu : u.main.Linked) :
        (l.foldl (fun w x => w.releaseAlert x.1 x.2) u).main.Linked := by
      induction l generalizing u with
      | nil => exact hu
      | cons x l ih => exact ih (hu.releaseAlert x.1 x.2)
    have committed : (s.committed v).main.Linked := released _ h
    have drain : (s.committed v).main.drain = s.main.drain := by rw [State.committed_frame]
    rw [State.commitDrain_of_awaited v state dock]
    obtain ⟨queue, unqueued, place, current, sound⟩ := committed.postCleared (.inr (by simp [drain, state]))
    exact formBatch ⟨queue, unqueued, place, current, sound⟩ (by simp [drain, dock]) rfl
  · rwa [State.commitDrain, if_neg awaited]

/-! ## Attempts -/

/-- A drain post leaves the transmitter: nothing of the engine's is left on the link. -/
theorem left (h : m.Linked) {c : Current} (is : m.current = some c) (isDrain : c.post.body.isDrain = true) :
    ({ m with current := none, drain := { m.drain with post := .none } } : Main).PostCleared := by
  obtain ⟨⟨queue, count, currentIff, -⟩, -⟩ := h
  have post := currentIff.2 ⟨c, is, isDrain⟩
  exact ⟨queue, count.trans (by simp [post]), .inl rfl, by simp, by simp⟩

/-- The current post is replaced by none, or by itself in another attempt. -/
theorem setCurrent (h : s.main.Linked) (x : Option Current) (isDrain : (∃ c ∈ x, c.post.body.isDrain = true) ↔
      ∃ c ∈ s.main.current, c.post.body.isDrain = true)
    (sound : ∀ c ∈ x, c.Sound ∧ (c.post.body.isDrain = true → c.dropAtLoss = false →
      s.main.drain.state = .sending ∧ c.post.body.CountsBatch s.main.drain)) : (s.setCurrent x).main.Linked := by
  obtain ⟨⟨queue, count, currentIff, idle, awaiting, counts, -⟩, engine⟩ := h
  refine ⟨⟨queue, count, currentIff.trans isDrain.symm, idle, awaiting, counts, fun c hc => ?_⟩, engine⟩
  obtain ⟨⟨losses, attempt⟩, kept⟩ := sound c hc
  exact ⟨losses, attempt, kept⟩

theorem setCurrent_none (h : s.main.Linked) {c : Current} (is : s.main.current = some c)
    (other : c.post.body.isDrain = false) : (s.setCurrent none).main.Linked :=
  h.setCurrent none (by simp [is, other]) (by simp)

/-- A drain post that has left the transmitter leaves the engine free to take any sound state without a post. -/
theorem freed (h : m.Linked) {c : Current} (is : m.current = some c) (isDrain : c.post.body.isDrain = true) {d : Drain}
    (sound : d.Sound) (post : d.post = .none) : ({ m with current := none, drain := d } : Main).Linked :=
  of_postCleared (h.left is isDrain) sound post fun _ => post

/-- The engine takes the end of the attempt of its post, and offers the post of a batch formed meanwhile (R166). -/
theorem clearedPostEnded (dealt : (s.setDrain { s.main.drain with post := .none }).main.Linked) :
    s.clearedPostEnded.main.Linked := by
  simp only [State.clearedPostEnded]
  split
  · rename_i sending
    exact dealt.offerDrainPost sending (.inl rfl)
  · exact dealt

/-- The head of the queue becomes current, and DRAIN-POST follows a drain post (R80, R169). -/
theorem takeCurrent (h : s.main.Linked) (free : s.main.current = none) {p : Post} {rest : List Post}
    (head : takeHead s.main.queue = some (p, rest)) {c : Current} (post : c.post = p) (sound : c.Sound) :
    ((s.takeCurrent p rest).setCurrent (some c)).main.Linked := by
  subst post
  obtain ⟨⟨queue, count, currentIff, idle, awaiting, counts, -⟩, engine⟩ := h
  obtain ⟨before, after, whole, rfl⟩ := takeHead_split head
  have sub : (before ++ after).Sublist s.main.queue := whole ▸ (List.sublist_cons_self ..).append_left before
  have split : drainPosts s.main.queue = drainPosts (before ++ after) + c.post.body.isDrain.toNat := by
    rw [whole]
    cases isDrain : c.post.body.isDrain
    · simp [drainPosts, isDrain]
    · simp [drainPosts, isDrain]
      omega
  have member : c.post ∈ s.main.queue := by simp [whole]
  have notCurrent : s.main.drain.post ≠ .current := fun e => by simpa [free] using currentIff.1 e
  cases isDrain : c.post.body.isDrain
  · have main : ((s.takeCurrent c.post (before ++ after)).setCurrent (some c)).main =
        { s.main with queue := before ++ after, current := some c } := by simp [isDrain]
    rw [main]
    refine ⟨⟨queue.sublist sub, ?_, by simp [notCurrent, isDrain], idle, awaiting, fun x hx => counts x (sub.subset hx), ?_⟩,
      engine⟩
    · rw [← count, split]
      simp [isDrain]
    · rintro _ ⟨⟩
      exact ⟨sound.1, sound.2, by simp [isDrain]⟩
  · have queued : s.main.drain.post = .queued := by
      rw [isDrain, count] at split
      by_contra elsewhere
      simp [elsewhere] at split
    have sending : s.main.drain.state = .sending := by
      cases state : s.main.drain.state with
      | idle => simpa [queued] using idle state
      | sending => rfl
      | awaitCommit => simpa [queued] using awaiting state
    have main : ((s.takeCurrent c.post (before ++ after)).setCurrent (some c)).main =
        { s.main with queue := before ++ after, current := some c, drain := { s.main.drain with post := .current } } := by
      simp [isDrain]
    rw [main]
    refine ⟨⟨queue.sublist sub, ?_, by simp [isDrain], fun _ => .inr rfl, by simp [sending],
      fun x hx => counts x (sub.subset hx), ?_⟩, engine⟩
    · simpa [count, queued, isDrain] using split.symm
    · rintro _ ⟨⟩
      exact ⟨sound.1, sound.2, fun _ _ => ⟨sending, counts _ member⟩⟩

theorem attemptDue (quiet : Nat) (h : s.main.Linked) : (s.attemptDue quiet).main.Linked := by
  unfold State.attemptDue
  split
  · rename_i c is
    split
    · obtain ⟨⟨-, -, -, -, -, -, current⟩, -⟩ := id h
      obtain ⟨losses, -, kept⟩ := current c is
      refine (h.setCurrent (some { c with attempt := some (postBytes s.main.strap s.statusFields c.post) })
        (by simp [is]) ?_).congr rfl rfl rfl
      rintro _ ⟨⟩
      exact ⟨⟨losses, fun _ => rfl⟩, kept⟩
    · exact h
  · rename_i free
    split
    · exact h
    · split
      · exact h
      · rename_i p rest head
        let u := s.takeCurrent p rest
        let c : Current := { post := p, losses := 0, attempt := some (postBytes u.main.strap u.statusFields p)
                             dropAtLoss := false }
        have sound : c.Sound := ⟨by simp [c, lossLimit], fun _ => rfl⟩
        exact (h.takeCurrent free head (c := c) rfl sound).congr rfl rfl rfl

/-- The engine's BATCH-END has been sent: with records the commit wait starts, and without any the drain ends (R171). -/
theorem batchEndTransmitted (h : s.main.Linked) {c : Current} (is : s.main.current = some c) {n : Nat}
    {ends : Option (Nat × Nat)} (body : c.post.body = .batchEnd n ends) (keeps : c.dropAtLoss = false) :
    ((s.setCurrent none).batchEndTransmitted n).main.Linked := by
  obtain ⟨⟨-, -, -, -, -, -, current⟩, idle, busy, waits⟩ := id h
  obtain ⟨-, -, kept⟩ := current c is
  have isDrain : c.post.body.isDrain = true := by rw [body]; rfl
  obtain ⟨sending, counts⟩ := kept isDrain keeps
  have count : n = s.main.drain.batch.length := counts n ends body
  have stopped : s.main.drain.commitWait = none := by simpa [sending] using waits
  unfold State.batchEndTransmitted
  split
  · rename_i zero
    have empty : s.main.drain.batch = [] := List.eq_nil_of_length_eq_zero (count.symm.trans zero)
    exact h.freed is isDrain ⟨fun _ => ⟨rfl, empty⟩, fun busy => absurd rfl busy, by simp [stopped]⟩ rfl
  · have dock : s.main.drain.dock.isSome = true := busy (by simp [sending])
    exact h.freed is isDrain ⟨DrainState.noConfusion, fun _ => dock, by simp [startTimer]⟩ rfl

theorem tellSent (h : s.main.Linked) {c : Current} (is : s.main.current = some c) :
    ((s.setCurrent none).tellSent c).main.Linked := by
  obtain ⟨⟨-, -, -, -, -, -, current⟩, engine⟩ := id h
  obtain ⟨-, -, kept⟩ := current c is
  unfold State.tellSent
  cases body : c.post.body with
  | status => exact (h.setCurrent_none is (by rw [body]; rfl)).congr rfl rfl rfl
  | record =>
    have isDrain : c.post.body.isDrain = true := by rw [body]; rfl
    cases drop : c.dropAtLoss
    · obtain ⟨sending, -⟩ := kept isDrain drop
      have dealt : ((s.setCurrent none).setDrain { s.main.drain with
          post := .none, position := s.main.drain.position + 1 }).main.Linked := h.freed is isDrain engine rfl
      exact dealt.offerDrainPost sending (.inl rfl)
    · exact clearedPostEnded (h.freed is isDrain engine rfl)
  | batchEnd =>
    have isDrain : c.post.body.isDrain = true := by rw [body]; rfl
    cases drop : c.dropAtLoss
    · exact h.batchEndTransmitted is body drop
    · exact clearedPostEnded (h.freed is isDrain engine rfl)
  | _ => exact h.setCurrent_none is (by rw [body]; rfl)

theorem attemptSent (h : s.main.Linked) : s.attemptSent.main.Linked := by
  unfold State.attemptSent
  split
  · exact h
  · split
    · exact tellSent (s := s.setLine .quiet) h ‹_›
    · exact h

theorem attemptFailed (h : s.main.Linked) : s.attemptFailed.main.Linked := by
  unfold State.attemptFailed
  split
  · exact h
  · rename_i c is
    obtain ⟨⟨-, -, -, -, -, -, current⟩, engine⟩ := id h
    obtain ⟨-, -, kept⟩ := current c is
    split
    · exact h
    · simp only
      split
      · split
        · exact clearedPostEnded (h.freed is ‹_› engine rfl)
        · exact h.setCurrent_none is (Bool.eq_false_iff.2 ‹_›)
      · rename_i keeps
        split
        · split
          · have dealt : ((s.setCurrent none).setDrain { s.main.drain with post := .none }).main.Linked :=
              h.freed is ‹_› engine rfl
            exact endDrain (dealt.congr rfl rfl rfl)
          · exact (h.setCurrent_none is (Bool.eq_false_iff.2 ‹_›)).congr rfl rfl rfl
        · rename_i fewer
          refine h.setCurrent _ (by simp [is]) ?_
          rintro _ ⟨⟩
          exact ⟨⟨Nat.lt_of_not_le fewer, fun drop => absurd drop keeps⟩, kept⟩

theorem passTime (n : Nat) (h : s.main.Linked) : (s.passTime n).main.Linked := by
  rw [State.passTime_main]
  split
  · obtain ⟨link, idle, busy, waits⟩ := h
    exact ⟨link, idle, busy, by simpa [Main.passTime, Timer.pass] using waits⟩
  · exact h

theorem offerWaiting (waiting : s.main.drain.post = .waiting) (h : s.main.Linked) : s.offerDrainPost.main.Linked := by
  have sending : s.main.drain.state = .sending := by
    obtain ⟨⟨-, -, -, idle, awaiting, -⟩, -⟩ := h
    cases state : s.main.drain.state with
    | idle => simpa [waiting] using idle state
    | sending => rfl
    | awaitCommit => simpa [waiting] using awaiting state
  exact h.offerDrainPost sending (.inr waiting)

end Main.Linked

theorem linked_promise : LinkPromise fun s => s.main.Linked where
  aside h _ link :=
    h.congr (congrArg LinkBlocks.queue link) (congrArg LinkBlocks.current link) (congrArg LinkBlocks.drain link)
  passTime n h := h.passTime n
  offer p other h := h.offer p other
  withdraw hit others h := h.withdraw hit others
  promoteTo i x room h := h.promoteTo i x room
  hearPeer _ _ _ h := h.congr rfl rfl rfl
  enterMute h := h.congr rfl rfl rfl
  silencePeer _ left _ h := (h.passTime left).congr rfl rfl rfl
  attemptDue quiet h := h.attemptDue quiet
  attemptSent h := h.attemptSent
  attemptFailed h := h.attemptFailed
  openDrain src h := h.openDrain src
  endDrain h := h.endDrain
  commitDrain src v h := h.commitDrain src v
  offerDrainPost waiting h := h.offerWaiting waiting
  stationReset _ := Main.Linked.offerStatus (.of_empty rfl rfl rfl)
  started _ _ _ _ := Main.Linked.offerStatus (.of_empty rfl rfl rfl)
  lost _ main := main ▸ .of_empty rfl rfl rfl

/-- Settles O56. -/
theorem transmitQueueIsKeptSound : Obligations.TransmitQueueIsKeptSound := by
  unfold Obligations.TransmitQueueIsKeptSound
  exact fun s t link engine next => linked_promise.step (P := fun s => s.main.Linked) ⟨link, engine⟩ next

end Sys2Proof.Machine
end


section
/-! # The transmitter: attempts that begin, complete and are lost (R76 to R79, R85, R91, R166 to R171, R177) -/

namespace Sys2Proof.Machine

/-! ## The start of an attempt -/

theorem State.awake_iff (s : State) : s.awake = true ↔
    s.powered = true ∧ (s.main.park = .run ∨ (s.main.park = .linkAwake ∧ s.main.wakeSettle = none)) := by
  simp [State.awake]

theorem State.mayStart_iff (s : State) : s.mayStart = true ↔
    s.powered = true ∧ s.main.supply = .normal ∧ s.main.mute = false ∧
      (s.main.park = .run ∨ (s.main.park = .linkAwake ∧ s.main.wakeSettle = none)) := by
  simp only [State.mayStart, Bool.and_eq_true, State.awake_iff, beq_iff_eq, Bool.not_eq_true']
  tauto

/-- The state once `quiet` microseconds of quiet have been told of outside an attempt (R86). -/
def State.quieted (s : State) (quiet : Nat) : State :=
  { s with
    journal := []
    pins := { s.pins with line := if 40 ≤ quiet then .quiet else s.pins.line }
    main := { s.main with linkCheck :=
      if 40 ≤ quiet ∧ s.pins.line = .heard then s.main.linkCheck + 1 else s.main.linkCheck } }

theorem State.lineSilent_begin {s : State} (free : s.inAttempt = false) (quiet : Nat) :
    (s.begin).lineSilent quiet = s.quieted quiet := by
  have free' : s.begin.inAttempt = false := free
  rw [State.lineSilent_eq, State.quieted]
  by_cases gap : 40 ≤ quiet
  · rw [if_pos ⟨free', gap⟩]
    simp [gap]
    rfl
  · rw [if_neg fun h => gap h.2]
    simp [gap]
    rfl

theorem exec_attempt_allowed {s : State} (quiet : Nat) (starts : s.mayStart = true) (free : s.inAttempt = false) :
    exec (.attempt quiet) s = .next ((s.quieted quiet).attemptDue quiet) := by
  have starts' : s.begin.mayStart = true := starts
  have free' : s.begin.inAttempt = false := free
  simp [exec, execAttempt, done, State.attemptAfter, free', starts', State.lineSilent_begin free]

theorem exec_attempt_prevented {s : State} (quiet : Nat) (stays : ¬ s.mayStart = true) (free : s.inAttempt = false) :
    exec (.attempt quiet) s = .next (s.quieted quiet) := by
  have stays' : ¬ s.begin.mayStart = true := stays
  have free' : s.begin.inAttempt = false := free
  simp [exec, execAttempt, done, State.attemptAfter, free', stays', State.lineSilent_begin free]

/-- Settles O21: the quiet is taken up in every case, and then the wait of the post that is due decides. -/
theorem attemptBeginsAfterItsQuietTime : Obligations.AttemptBeginsAfterItsQuietTime := by
  unfold Obligations.AttemptBeginsAfterItsQuietTime
  intro ended
  refine ⟨State.mayStart_iff, fun quiet s starts free => ?_, fun quiet s prevented free => ?_, fun quiet s busy => ?_⟩
  · have acts := exec_attempt_allowed quiet starts free
    refine ⟨fun c is => ?_, fun idle => ⟨fun p rest gap head => ?_, fun none_due => ?_⟩⟩
    · have due : (s.quieted quiet).attemptDue quiet =
          if waitUs s.main.strap c.losses ≤ quiet then (s.quieted quiet).beginAttempt c else s.quieted quiet := by
        simp only [State.attemptDue, State.quieted, is]
      refine ⟨fun waited => ?_, fun early => ?_⟩
      · have waited : waitUs s.main.strap c.losses ≤ quiet := waited
        rw [acts, due, if_pos waited]
        rfl
      · have early : quiet < waitUs s.main.strap c.losses := early
        rw [acts, due, if_neg (Nat.not_le_of_lt early)]
        rfl
    · have due : (s.quieted quiet).attemptDue quiet = ((s.quieted quiet).takeCurrent p rest).beginAttempt
          { post := p, losses := 0, attempt := none, dropAtLoss := false } := by
        simp only [State.attemptDue, State.quieted, idle, head, quietGapUs, if_neg (Nat.not_lt_of_le gap)]
      rw [acts, due]
      rfl
    · have due : (s.quieted quiet).attemptDue quiet = s.quieted quiet := by
        rcases none_due with early | empty
        · simp only [State.attemptDue, State.quieted, idle, quietGapUs, if_pos early]
        · simp [State.attemptDue, State.quieted, idle, empty, takeHead, takeClass]
      rw [acts, due]
      rfl
  · refine exec_attempt_prevented quiet (fun starts => ?_) free
    obtain ⟨powered, normal, loud, run | ⟨awake, settled⟩⟩ := s.mayStart_iff.1 starts <;> simp_all
  · have busy' : s.begin.inAttempt = true := busy
    simp [exec, execAttempt, done, State.attemptAfter, busy']

/-! ## The end of an attempt -/

section

variable {s : State} {c : Current} (is : s.main.current = some c) (driving : c.attempt ≠ none)
include is driving

theorem exec_postSent : exec .postSent s = .next ((((s.begin).setCurrent none).setLine .quiet).tellSent c) := by
  have driving : c.attempt.isSome = true := Option.isSome_iff_ne_none.2 driving
  simp [exec, execPostSent, done, State.attemptSent, is, driving]

theorem exec_attemptLost_dropped (drop : c.dropAtLoss = true) :
    exec .attemptLost s = .next
      (if c.post.body.isDrain then ((s.begin).setCurrent none).clearedPostEnded else (s.begin).setCurrent none) := by
  simp [exec, execAttemptLost, done, State.attemptFailed, is, driving, drop]

theorem exec_attemptLost_kept (keeps : c.dropAtLoss = false) (fewer : c.losses < 15) :
    exec .attemptLost s =
      .next ((s.begin).setCurrent (some { c with losses := c.losses + 1, attempt := none })) := by
  have fewer : ¬ lossLimit ≤ c.losses + 1 := by
    simp only [lossLimit]
    omega
  simp [exec, execAttemptLost, done, State.attemptFailed, is, driving, keeps, fewer]

theorem exec_attemptLost_discarded (keeps : c.dropAtLoss = false) (last : 15 ≤ c.losses) {u : State}
    (dropped : u = { (s.begin).setCurrent none with
      main := { ((s.begin).setCurrent none).main with linkDrop := s.main.linkDrop + 1 } }) :
    exec .attemptLost s = .next (if c.post.body.isDrain then u.drainPostDiscarded else u) := by
  have last : lossLimit ≤ c.losses + 1 := Nat.succ_le_succ last
  subst dropped
  simp [exec, execAttemptLost, done, State.attemptFailed, is, driving, keeps, last]

end

theorem State.tellSent_of_other {s : State} {c : Current} (other : c.post.body.isDrain = false)
    (notStatus : c.post.body ≠ .status) : s.tellSent c = s := by
  unfold State.tellSent
  cases body : c.post.body with
  | status => exact absurd body notStatus
  | record | batchEnd => simp [body, PostBody.isDrain] at other
  | _ => rfl

/-- Of a post of a cleared batch the engine takes the end alone (R166). -/
theorem State.tellSent_of_dropped {s : State} {c : Current} (isDrain : c.post.body.isDrain = true)
    (drop : c.dropAtLoss = true) : s.tellSent c = s.clearedPostEnded := by
  unfold State.tellSent
  cases body : c.post.body with
  | record | batchEnd => simp [drop]
  | _ => simp [body, PostBody.isDrain] at isDrain

theorem State.clearedPostEnded_elsewhere {s : State} (h : s.main.drain.state ≠ .sending) :
    s.clearedPostEnded = s.setDrain { s.main.drain with post := .none } := by
  simp [State.clearedPostEnded, h]

theorem State.clearedPostEnded_sending {s : State} (h : s.main.drain.state = .sending) :
    s.clearedPostEnded = (s.setDrain { s.main.drain with post := .none }).offerDrainPost := by
  simp [State.clearedPostEnded, h]

/-- Settles O22: the post is gone from the transmitter, and then its kind says what its block does. -/
theorem sentPostLeavesTransmitter : Obligations.SentPostLeavesTransmitter := by
  unfold Obligations.SentPostLeavesTransmitter
  intro s c is driving u d
  have sent : exec .postSent s = .next (u.tellSent c) := exec_postSent is driving
  refine ⟨fun other notStatus => ?_, fun status => ?_, fun r record keeps => ?_, fun n e batchEnd keeps => ⟨?_, ?_⟩,
    fun isDrain drop => ⟨fun elsewhere => ?_, fun sending => ?_⟩⟩
  · rw [sent, State.tellSent_of_other other notStatus]
  · rw [sent, State.tellSent, status]
    rfl
  · rw [sent, State.tellSent, record]
    simp only [keeps]
    rfl
  · rintro rfl
    rw [sent, State.tellSent, batchEnd]
    simp only [keeps]
    rfl
  · intro some_records
    rw [sent, State.tellSent, batchEnd]
    simp only [keeps, State.batchEndTransmitted, if_neg some_records]
    rfl
  · rw [sent, State.tellSent_of_dropped isDrain drop, State.clearedPostEnded_elsewhere (s := u) elsewhere]
    rfl
  · rw [sent, State.tellSent_of_dropped isDrain drop, State.clearedPostEnded_sending (s := u) sending]
    rfl

/-- Settles O23: whether the post was dropped, how often it was lost, and whether it is the engine's decide in turn. -/
theorem lostAttemptKeepsDropsOrDiscardsPost : Obligations.LostAttemptKeepsDropsOrDiscardsPost := by
  unfold Obligations.LostAttemptKeepsDropsOrDiscardsPost
  intro s c is driving u dropped
  refine ⟨fun keeps => ⟨exec_attemptLost_kept is driving keeps, fun last => ?_⟩, fun drop => ?_⟩
  · have lost := exec_attemptLost_discarded is driving keeps last (u := dropped) rfl
    refine ⟨fun other => ?_, fun isDrain => ?_⟩
    · rw [lost, if_neg (Bool.eq_false_iff.1 other)]
    · rw [lost, if_pos isDrain]
      rfl
  · have lost := exec_attemptLost_dropped is driving drop
    refine ⟨fun other => ?_, fun isDrain elsewhere => ?_, fun isDrain sending => ?_⟩
    · rw [lost, if_neg (Bool.eq_false_iff.1 other)]
    · rw [lost, if_pos isDrain, State.clearedPostEnded_elsewhere (s := u) elsewhere]
      rfl
    · rw [lost, if_pos isDrain, State.clearedPostEnded_sending (s := u) sending]
      rfl

end Sys2Proof.Machine
end


section
/-! # The drain's posts and batches: an early end, a WAITING post offered again, and the forming of a batch -/

namespace Sys2Proof.Machine

/-! ## An early end -/

theorem State.clearBatch_frame (s : State) :
    s.clearBatch.powered = s.powered ∧ s.clearBatch.backup = s.backup ∧ s.clearBatch.pins = s.pins ∧
      s.clearBatch.pending = s.pending := by
  obtain ⟨-, powered, backup, pins, pending⟩ :=
    State.clearDrainPost_frame (s.markAll .unsent s.main.drain.batch)
  simp [State.clearBatch, powered, backup, pins, pending]

/-- An early end of a drain in progress clears its batch (section 9.4). -/
theorem State.endDrain_ret_of_busy {s : State} (busy : s.main.drain.state ≠ .idle) :
    s.endDrain.ret = { s.ret with log := s.ret.log.map fun x =>
      if x.seq ∈ s.main.drain.batch then { x with mark := .unsent } else x } := by
  rw [State.endDrain, if_neg busy]
  exact s.clearBatch_ret

theorem State.passTime_drain (s : State) (n : Nat) :
    (s.passTime n).main.drain.state = s.main.drain.state ∧
      (s.passTime n).main.drain.batch = s.main.drain.batch := by
  rw [State.passTime_main]
  split <;> exact ⟨rfl, rfl⟩

theorem State.hearing_drain (s : State) (src : BitVec 4) (role : Role) :
    (s.hearing src role).main.drain = s.main.drain := by
  rw [State.hearing_eq]

theorem State.hearing_current (s : State) (src : BitVec 4) (role : Role) :
    (s.hearing src role).main.current = s.main.current := by
  rw [State.hearing_eq]

/-- Settles O41: both causes run the one early end, from a state whose drain is the one before the command. -/
theorem earlyEndReturnsBatchUnsent : Obligations.EarlyEndReturnsBatchUnsent := by
  unfold Obligations.EarlyEndReturnsBatchUnsent
  intro src s ended
  have ends (u : State) (state : u.main.drain.state = s.main.drain.state)
      (batch : u.main.drain.batch = s.main.drain.batch) (busy : s.main.drain.state ≠ .idle) : ended u u.endDrain :=
    ⟨by rw [State.endDrain_ret_of_busy (state ▸ busy), batch], u.endDrain_main, u.endDrain_frame⟩
  refine ⟨fun takes => ?_, fun left awaits runs => ?_, fun stopped => ?_⟩
  · have acts : exec (.drainClose src) s = .next ((s.hearing src .dock).closeDrain src.toNat) :=
      congrArg _ (s.hearAddressed_of_takesFrom src .dock _ takes)
    have drain := s.hearing_drain src .dock
    rw [acts]
    refine ⟨fun busy dock => ⟨_, ?_, ends _ (by rw [drain]) (by rw [drain]) busy⟩, fun other => ?_⟩
    · rw [State.closeDrain, if_pos (by rw [drain]; exact ⟨busy, dock⟩)]
    · rw [State.closeDrain, if_neg (by rw [drain]; tauto)]
  · obtain ⟨state, batch⟩ := (s.begin).passTime_drain left
    refine ⟨_, ?_, ends _ state batch (by simp [awaits])⟩
    simp [exec, execCommitWaitExpiry, done, State.commitWaitExpired, runs]
  · simp [exec, execCommitWaitExpiry, done, State.commitWaitExpired, stopped]

/-! ## The engine's offer of its post -/

/-- A drain post replaces no other (R82). -/
theorem PostBody.replaces_of_isDrain {new : PostBody} (h : new.isDrain = true) (old : PostBody) :
    new.replaces old = false := by
  cases new <;> simp [PostBody.isDrain, PostBody.replaces, PostBody.isStatus, PostBody.claimMeter] at h ⊢

theorem State.offerDrainPost_place {s : State} {b : PostBody} {n : Nat} (next : s.nextDrainBody = some b)
    (dock : s.main.drain.dock.getD 0 = n) (place : s.main.queue.length < 16) :
    s.offerDrainPost = { s with main := { s.main with
      queue := s.main.queue ++ [{ mask := 1#16 <<< n, body := b }]
      drain := { s.main.drain with post := .queued } } } := by
  obtain ⟨isDrain, -⟩ := State.nextDrainBody_cases next
  have room : s.queueRoom = true := decide_eq_true place
  simp [State.offerDrainPost, next, room, dock, State.enqueue, State.setDrain, maskOf,
    PostBody.replaces_of_isDrain isDrain]

theorem State.offerDrainPost_full {s : State} {b : PostBody} (next : s.nextDrainBody = some b)
    (full : 16 ≤ s.main.queue.length) :
    s.offerDrainPost = s.setDrain { s.main.drain with post := .waiting } := by
  have room : s.queueRoom = false := decide_eq_false (Nat.not_lt_of_le full)
  simp [State.offerDrainPost, next, room]

theorem State.offerDrainPost_frame (s : State) :
    s.offerDrainPost.ret = s.ret ∧ s.offerDrainPost.powered = s.powered ∧ s.offerDrainPost.backup = s.backup ∧
      s.offerDrainPost.pins = s.pins ∧ s.offerDrainPost.pending = s.pending := by
  unfold State.offerDrainPost
  split
  · exact ⟨rfl, rfl, rfl, rfl, rfl⟩
  · split <;> exact ⟨rfl, rfl, rfl, rfl, rfl⟩

/-- A rising batch has its lowest sequence first and its highest last (R169). -/
theorem batchEnds_of_rising {batch : List Nat} {lowest highest : Nat} (rising : batch.Pairwise (· < ·))
    (low : lowest ∈ batch) (high : highest ∈ batch) (bounds : ∀ q ∈ batch, lowest ≤ q ∧ q ≤ highest) :
    batchEnds batch = some (lowest, highest) := by
  have ne : batch ≠ [] := List.ne_nil_of_mem low
  have ascending : batch.Pairwise (· ≤ ·) := rising.imp Nat.le_of_lt
  have first : batch.head ne = lowest := by
    refine Nat.le_antisymm ?_ (bounds _ (List.head_mem ne)).1
    exact ascending.rel_head low
  have last : batch.getLast ne = highest := by
    refine Nat.le_antisymm (bounds _ (List.getLast_mem ne)).2 ?_
    exact ascending.rel_getLast high
  rw [batchEnds, List.head?_eq_some_head ne, List.getLast?_eq_some_getLast ne, first, last]

/-- Settles O42: what the engine composes decides the post, and the place in the queue whether it enters. -/
theorem waitingDrainPostIsOfferedAgain : Obligations.WaitingDrainPostIsOfferedAgain := by
  unfold Obligations.WaitingDrainPostIsOfferedAgain
  intro s x n waiting dock queued
  have acts : exec .drainPostOffer s = .next (s.begin).offerDrainPost := by
    simp [exec, execDrainPostOffer, done, waiting]
  have enters (place : s.main.queue.length < 16) (b : PostBody) (next : (s.begin).nextDrainBody = some b) :
      exec .drainPostOffer s = queued b := by
    rw [acts, State.offerDrainPost_place (n := n) next (by simp [dock]) place]
    rfl
  refine ⟨fun place => ⟨fun q due found => ?_, fun last => ⟨fun empty => ?_, ?_⟩⟩, fun full => ?_⟩
  · exact enters place _ (by simp [State.nextDrainBody, due, found])
  · exact enters place _ (by simp [State.nextDrainBody, empty, batchEnds])
  · intro lowest highest rising low high bounds
    exact enters place _ (by simp [State.nextDrainBody, last, batchEnds_of_rising rising low high bounds])
  · rw [acts]
    cases next : (s.begin).nextDrainBody with
    | none => simp [State.offerDrainPost, next]
    | some b =>
      rw [State.offerDrainPost_full next full]
      simp only [State.setDrain, State.begin_main, ← waiting]
      rfl

/-! ## The forming of a batch -/

/-- A batch takes the first sixteen CLOSED and UNSENT records (R168). -/
def Retained.chosen (r : Retained) : List Record :=
  (r.log.filter fun x => x.openState == .closed && x.mark == .unsent).take 16

theorem Retained.batchChoice_eq (r : Retained) : r.batchChoice = r.chosen.map Record.seq := by
  simp [Retained.batchChoice, Retained.chosen, batchLimit]

theorem Retained.chosen_subset (r : Retained) : r.chosen ⊆ r.log :=
  fun _ h => List.mem_of_mem_filter (List.mem_of_mem_take h)

/-- A pass over the log that keeps every SEQUENCE keeps the order (R150). -/
theorem Retained.LogInOrder.map {r : Retained} (h : r.LogInOrder) (f : Record → Record)
    (keeps : ∀ x, (f x).seq = x.seq) : ({ r with log := r.log.map f } : Retained).LogInOrder := by
  obtain ⟨rising, below, counter⟩ := h
  refine ⟨?_, fun y hy => ?_, counter⟩
  · have same : Record.seq ∘ f = Record.seq := funext keeps
    simpa only [List.map_map, same] using rising
  · obtain ⟨x, hx, rfl⟩ := List.mem_map.1 hy
    rw [keeps]
    exact below x hx

theorem Retained.LogInOrder.recordOf {r : Retained} (h : r.LogInOrder) {x : Record} (hx : x ∈ r.log) :
    r.recordOf x.seq = some x := by
  obtain ⟨y, found⟩ : ∃ y, r.recordOf x.seq = some y :=
    Option.isSome_iff_exists.1 (List.find?_isSome.2 ⟨x, hx, beq_self_eq_true _⟩)
  have same : y.seq = x.seq := by simpa using List.find?_some found
  rw [found, h.unique (List.mem_of_find?_eq_some found) hx same]

/-- The log once the chosen records are marked (R168). -/
def Retained.marked (r : Retained) : Retained :=
  { r with log := r.log.map fun x => if x ∈ r.chosen then { x with mark := .sentInBatch } else x }

theorem Retained.LogInOrder.marked_recordOf {r : Retained} (h : r.LogInOrder) {x : Record} (hx : x ∈ r.chosen) :
    r.marked.recordOf x.seq = some { x with mark := .sentInBatch } := by
  have order : r.marked.LogInOrder := h.map _ fun y => by split <;> rfl
  refine order.recordOf (x := { x with mark := .sentInBatch }) (List.mem_map.2 ⟨x, r.chosen_subset hx, ?_⟩)
  rw [if_pos hx]

theorem State.markAll_batchChoice {u : State} (order : u.ret.LogInOrder) :
    (u.markAll .sentInBatch u.ret.batchChoice).ret = u.ret.marked := by
  rw [State.markAll_ret, Retained.marked]
  refine congrArg (fun l => ({ u.ret with log := l } : Retained)) (List.map_congr_left fun x hx => ?_)
  have named : x.seq ∈ u.ret.batchChoice ↔ x ∈ u.ret.chosen := by
    rw [Retained.batchChoice_eq, List.mem_map]
    refine ⟨?_, fun h => ⟨x, h, rfl⟩⟩
    rintro ⟨y, hy, e⟩
    rwa [← order.unique (u.ret.chosen_subset hy) hx e]
  simp only [named]
  rfl

/-- The engine once a batch of the records chosen is formed, before its first post is offered (R168). -/
def State.batched (u : State) : State :=
  (u.markAll .sentInBatch u.ret.batchChoice).setDrain
    { u.main.drain with state := .sending, batch := u.ret.chosen.map Record.seq, position := 0 }

/-- A batch is not offered beside a post of an earlier one that is CURRENT (R169). -/
theorem State.formBatch_eq (u : State) :
    u.formBatch = if u.main.drain.post = .current then u.batched else u.batched.offerDrainPost := by
  simp only [State.formBatch, State.batched, Retained.batchChoice_eq, State.markAll_main, State.setDrain_main]

theorem State.batched_main (u : State) :
    u.batched.main = { u.main with drain := { u.main.drain with
      state := .sending, batch := u.ret.chosen.map Record.seq, position := 0 } } := by
  simp [State.batched]

theorem State.batched_frame (u : State) :
    u.batched.powered = u.powered ∧ u.batched.backup = u.backup ∧ u.batched.pins = u.pins ∧
      u.batched.pending = u.pending := by
  simp [State.batched]

theorem State.batched_nextDrainBody_empty {u : State} (none_chosen : u.ret.chosen = []) :
    u.batched.nextDrainBody = some (.batchEnd 0 none) := by
  simp [State.nextDrainBody, State.batched, none_chosen, batchEnds]

theorem State.batched_nextDrainBody_first {u : State} (order : u.ret.LogInOrder) {x : Record} {l : List Record}
    (chosen : u.ret.chosen = x :: l) :
    u.batched.nextDrainBody = some (.record { x with mark := .sentInBatch }) := by
  have first : u.batched.main.drain.batch[u.batched.main.drain.position]? = some x.seq := by
    simp [State.batched, chosen]
  have found : u.batched.ret.recordOf x.seq = some { x with mark := .sentInBatch } := by
    rw [State.batched, State.setDrain_ret, State.markAll_batchChoice order]
    exact order.marked_recordOf (chosen ▸ List.mem_cons_self)
  rw [State.nextDrainBody, first]
  simp [found]

theorem State.formBatch_ret {u : State} (order : u.ret.LogInOrder) : u.formBatch.ret = u.ret.marked := by
  have formed : u.formBatch.ret = u.batched.ret := by
    rw [State.formBatch_eq]
    split
    · rfl
    · exact u.batched.offerDrainPost_frame.1
  rw [formed]
  exact State.markAll_batchChoice order

theorem State.formBatch_frame (u : State) :
    u.formBatch.powered = u.powered ∧ u.formBatch.backup = u.backup ∧ u.formBatch.pins = u.pins ∧
      u.formBatch.pending = u.pending := by
  rw [State.formBatch_eq]
  split
  · exact u.batched_frame
  · obtain ⟨-, powered, backup, pins, pending⟩ := u.batched.offerDrainPost_frame
    rw [powered, backup, pins, pending]
    exact u.batched_frame

theorem State.inAttempt_eq_any (s : State) : s.inAttempt = s.main.current.any fun c => c.attempt.isSome := by
  unfold State.inAttempt
  split <;> simp [*]

theorem State.TakesFrom.free {s : State} {src : BitVec 4} (h : s.TakesFrom src) : s.inAttempt = false := by
  obtain ⟨receives, -⟩ := h
  simp only [State.receives, State.receptive, Bool.and_eq_true, Bool.not_eq_true'] at receives
  obtain ⟨⟨-, free⟩, -⟩ := receives
  exact free

/-- Between attempts the engine's post goes at once when its batch is cleared (R83, R166). -/
theorem Main.withoutDrainPost_post_of_free {m : Main} (free : (m.current.any fun c => c.attempt.isSome) = false) :
    m.withoutDrainPost.drain.post = .none := by
  simp [Main.withoutDrainPost, free]

/-- What the forming of a batch does with its first post (R169). -/
theorem State.formBatch_main {u : State} {b : PostBody} (next : u.batched.nextDrainBody = some b)
    (other : u.main.drain.post ≠ .current) {d : Drain} (is : d = u.batched.main.drain) :
    (u.main.queue.length < 16 → u.formBatch.main = { u.main with
      queue := u.main.queue ++ [{ mask := 1#16 <<< (u.main.drain.dock.getD 0), body := b }]
      drain := { d with post := .queued } }) ∧
    (16 ≤ u.main.queue.length → u.formBatch.main = { u.main with drain := { d with post := .waiting } }) := by
  have queue : u.batched.main.queue = u.main.queue := by rw [State.batched_main]
  have dock : u.batched.main.drain.dock.getD 0 = u.main.drain.dock.getD 0 := by rw [State.batched_main]
  subst is
  rw [State.formBatch_eq, if_neg other]
  refine ⟨fun place => ?_, fun full => ?_⟩
  · rw [State.offerDrainPost_place next dock (queue ▸ place), State.batched_main]
  · rw [State.offerDrainPost_full next (queue ▸ full), State.setDrain_main, State.batched_main]

/-- Settles O39: the forming of a batch once, and then the state in which each drain state forms it. -/
theorem drainOpenFormsBatchOfOldestClosed : Obligations.DrainOpenFormsBatchOfOldestClosed := by
  unfold Obligations.DrainOpenFormsBatchOfOldestClosed
  intro forms
  have formed (u : State) (order : u.ret.LogInOrder) : forms u u.formBatch := by
    refine ⟨State.formBatch_ret order, fun current => ?_, fun other => ?_, u.formBatch_frame⟩
    · rw [State.formBatch_eq, if_pos current, State.batched_main]
      rfl
    · have drain := congrArg Main.drain u.batched_main
      cases chosen : u.ret.chosen with
      | nil =>
        have first := State.formBatch_main (State.batched_nextDrainBody_empty chosen) other drain.symm
        unfold Retained.chosen at chosen
        simpa only [forms, Retained.chosen, chosen] using first
      | cons x l =>
        have first := State.formBatch_main (State.batched_nextDrainBody_first order chosen) other drain.symm
        unfold Retained.chosen at chosen
        simpa only [forms, Retained.chosen, chosen] using first
  have journaled {w u t : State} (same : u = { w with journal := u.journal }) (h : forms w t) : forms u t := by
    rw [same]
    exact h
  refine ⟨formed, ?_⟩
  intro src s takes order v
  have acts : exec (.drainOpen src) s = .next (v.openDrain src.toNat) :=
    congrArg _ (s.hearAddressed_of_takesFrom src .dock _ takes)
  have drain : v.main.drain = s.main.drain := s.hearing_drain src .dock
  have ret : v.ret = s.ret := s.hearing_ret src .dock
  have free : (v.main.current.any fun c => c.attempt.isSome) = false := by
    rw [show v.main.current = s.main.current from s.hearing_current src .dock, ← s.inAttempt_eq_any, takes.free]
  clear_value v
  refine ⟨fun idle => ⟨_, acts, ?_⟩, fun busy => ⟨_, acts, ?_⟩⟩
  · rw [State.openDrain, if_pos (drain ▸ idle)]
    exact formed _ (ret.symm ▸ order)
  · have unmarked : v.clearBatch.ret = { s.ret with log := s.ret.log.map fun x =>
        if x.seq ∈ s.main.drain.batch then { x with mark := .unsent } else x } := by
      rw [State.clearBatch_ret, drain, ret]
      rfl
    have main : v.clearBatch.main = { v.main.withoutDrainPost with drain := { s.main.drain with
        batch := [], position := 0, post := .none, commitWait := none } } := by
      rw [State.clearBatch_main, drain, Main.withoutDrainPost_post_of_free free]
    obtain ⟨powered, backup, pins, pending⟩ := v.clearBatch_frame
    rw [State.openDrain, if_neg (by rw [drain]; exact busy)]
    refine journaled ?_ (formed (v.clearBatch.setDrain { v.clearBatch.main.drain with dock := some src.toNat }) ?_)
    · rw [State.setDrain, main, powered, backup, pins, pending, unmarked]
    · rw [State.setDrain_ret, unmarked]
      exact order.map _ fun x => by split <;> rfl

end Sys2Proof.Machine
end


section
/-! # Park, the wake, the supplies and the queries: what the station does between its posts -/

namespace Sys2Proof.Machine

/-! ## Entry to RUN and the wake -/

theorem State.hearing_linkAwake {s : State} (awake : s.main.park = .linkAwake) (src : BitVec 4) (role : Role) :
    s.hearing src role = { s.heardFrom src.toNat role with main := { (s.heardFrom src.toNat role).main with
      parkReturn := some (s.main.cfg.parkReturn * 1000) } } :=
  if_pos awake

theorem State.hearing_elsewhere {s : State} (elsewhere : s.main.park ≠ .linkAwake) (src : BitVec 4) (role : Role) :
    s.hearing src role = s.heardFrom src.toNat role :=
  if_neg elsewhere

/-- The quiet before the activity ends the stretch under way (R86), and the activity gives the line its standing (R85). -/
theorem State.lineStarts_eq (s : State) (quiet : Nat) {line : LinkLine} (is : s.lineStarted quiet = line) :
    (s.lineSilent quiet).setLine (s.lineStarted quiet) = { s with
      pins := { s.pins with line := line }
      main := { s.main with linkCheck :=
        if s.inAttempt = false ∧ 40 ≤ quiet ∧ s.pins.line = .heard then s.main.linkCheck + 1
        else s.main.linkCheck } } := by
  rw [is, State.lineSilent_eq, quietGapUs]
  by_cases gap : s.inAttempt = false ∧ 40 ≤ quiet
  · obtain ⟨free, long⟩ := gap
    simp only [free, long, State.setLine, true_and, if_true]
  · have uncounted : ¬ (s.inAttempt = false ∧ 40 ≤ quiet ∧ s.pins.line = .heard) := by tauto
    simp only [if_neg gap, if_neg uncounted, State.setLine]

/-- Settles O45: the edge and the post enter RUN by one operation, and the start of activity on the line is one as well. -/
theorem entryToRunAndWakeFromPark : Obligations.EntryToRunAndWakeFromPark := by
  unfold Obligations.EntryToRunAndWakeFromPark
  refine ⟨⟨fun s => ⟨fun powered parked => ?_, fun run => ?_⟩, fun src s takes => ?_⟩,
    fun src role s => ⟨fun awake => State.hearing_linkAwake awake src role, fun elsewhere =>
      State.hearing_elsewhere elsewhere src role⟩, fun quiet s => ?_⟩
  · have rises : ((s.begin).setIgn true).ignRose = ((s.begin).setIgn true).enterRun :=
      if_pos (by simp [State.setIgn, powered, parked])
    exact congrArg _ rises
  · have stays : ((s.begin).setIgn true).ignRose = (s.begin).setIgn true := if_neg (by simp [State.setIgn, run])
    exact congrArg _ stays
  · have acts : exec (.run src) s = .next (s.hearing src .console).runPost :=
      congrArg _ (s.hearAddressed_of_takesFrom src .console _ takes)
    have park := s.hearing_park src .console
    rw [acts]
    refine ⟨fun awake => ?_, fun run => ?_⟩
    · rw [State.runPost, if_pos (park.trans awake)]
      rfl
    · rw [State.runPost, if_neg (by rw [park, run]; nofun)]
  · intro listens u
    have started : (s.begin).lineStarted quiet = u.pins.line := by
      have awake : (s.begin).awake = true ↔ listens := s.awake_iff
      simp only [State.lineStarted, awake]
      rfl
    have starts : ((s.begin).lineSilent quiet).setLine ((s.begin).lineStarted quiet) = u :=
      State.lineStarts_eq s.begin quiet started
    refine ⟨fun powered parked gap => ?_, fun stays => ?_, fun left runs => ?_⟩
    · simp only [exec, execWake, done, State.lineActive, starts]
      rw [if_pos ⟨powered, parked, gap⟩]
      rfl
    · simp only [exec, execWake, done, State.lineActive, starts]
      refine congrArg _ (if_neg ?_)
      rintro ⟨powered, parked, gap⟩
      simp only [State.begin_powered, State.begin_main, quietGapUs] at powered parked gap
      rcases stays with off | elsewhere | short
      · simp [powered] at off
      · exact elsewhere parked
      · omega
    · simp only [exec, execWakeSettleExpiry, done, State.wakeSettled, State.begin_main, runs]
      rw [State.passTime_cfg]
      rfl

/-! ## The supplies -/

/-- With the writes up to one of the step cut, the domain is as it stood before that one (R159). -/
theorem State.retainedBefore_cut {s : State} {later earlier : List Retained} {r : Retained}
    (journal : s.journal = later ++ r :: earlier) : s.retainedBefore (later.length + 1) = r := by
  have cut : s.journal.take (later.length + 1) = later ++ [r] := by
    simp [journal, List.take_append]
  simp [State.retainedBefore, cut]

/-- What a failure of VMAIN makes of a powered part (R85, R184). -/
theorem exec_mainSupplyLoss {s : State} (powered : s.powered = true) (cut : Nat) {r : Retained}
    (is : (if s.backup = true then s.retainedBefore cut else clearedRetained false) = r) :
    exec (.mainSupplyLoss cut) s = .next { s with
      powered := false, ret := r, main := lostMain, journal := []
      pins := { s.pins with line := if s.pins.line = .heard then .missed else s.pins.line } } := by
  simp only [exec, execMainSupplyLoss, done, State.loseMain, if_pos powered, is, LinkLine.cut_eq]

/-- Settles O46: which supply stands when the other fails decides what the retained domain keeps. -/
theorem supplyLossKeepsLastCompletedWrite : Obligations.SupplyLossKeepsLastCompletedWrite := by
  unfold Obligations.SupplyLossKeepsLastCompletedWrite
  refine ⟨fun s cut powered => ⟨fun held => ?_, fun later r earlier held journal => ?_, fun failed => ?_⟩,
    fun s held off => ?_, fun s held powered => ?_, fun s failed => ?_, fun s cut off => ?_⟩
  · exact exec_mainSupplyLoss powered 0 (if_pos held)
  · exact exec_mainSupplyLoss powered _ ((if_pos held).trans (State.retainedBefore_cut journal))
  · exact ⟨_, exec_mainSupplyLoss powered cut (if_neg (Bool.eq_false_iff.1 failed)), rfl, rfl, rfl⟩
  · refine ⟨(s.begin).loseBackup, congrArg _ (if_pos held), ?_⟩
    simp [State.loseBackup, off, clearedRetained]
  · refine congrArg _ ((if_pos held).trans ?_)
    simp [State.loseBackup, State.begin, powered]
  · exact congrArg _ (if_neg (Bool.eq_false_iff.1 failed))
  · exact congrArg _ (if_neg (Bool.eq_false_iff.1 off))

/-! ## The queries -/

/-- A post that only a console or a dock may send is heard, and does no more, from a collector (R88). -/
theorem State.hearQuery_of_collector (s : State) (src : BitVec 4) (act : State → State) (h : s.TakesFrom src) :
    (s.begin).hearQuery src.toNat .collector act = s.heardFrom src.toNat .collector := by
  have ne := h.src_ne_zero
  obtain ⟨receives, -, foreign⟩ := h
  exact State.hear_of_takesFrom s.begin src.toNat .collector _ receives ne foreign

theorem State.hearing_settings (s : State) (src : BitVec 4) (role : Role) (n : Nat) :
    (s.hearing src role).configReport n = s.configReport n := by
  rw [State.hearing_eq]
  rfl

theorem State.hearing_counters (s : State) (src : BitVec 4) (role : Role) (part : Part) :
    (s.hearing src role).main.counters part = s.main.counters part := by
  rw [State.hearing_eq]
  cases part <;> rfl

/-- Settles O50: from a console or a dock the query is acted on, and PART names the counters. -/
theorem queriesAreAnsweredToTheirSender : Obligations.QueriesAreAnsweredToTheirSender := by
  unfold Obligations.QueriesAreAnsweredToTheirSender
  intro src role part s takes u reply port
  refine ⟨fun answered => ?_, fun collector => ?_⟩
  · have config : exec (.configQuery src role) s = .next (u.answerConfig src.toNat) :=
      congrArg _ (s.hearQuery_of_takesFrom src role _ takes answered)
    have count : exec (.countQuery src role part) s = .next (u.answerCount src.toNat part) :=
      congrArg _ (s.hearQuery_of_takesFrom src role _ takes answered)
    have report (x : Part) (named : partOf part = some x) :
        exec (.countQuery src role part) s = reply (.countReport x (s.main.counters x)) := by
      rw [count, State.answerCount, named]
      simp only [u, State.hearing_counters]
      rfl
    refine ⟨?_, ?_, ?_, ?_, fun beyond => ?_⟩
    · rw [config, State.answerConfig, show u.configReport src.toNat = s.configReport src.toNat from
        s.hearing_settings src role src.toNat]
      rfl
    · rintro rfl
      exact report .portA rfl
    · rintro rfl
      exact report .portB rfl
    · rintro rfl
      exact report .station rfl
    · have unnamed : partOf part = none := by
        rw [partOf, if_neg, if_neg, if_neg] <;> rintro rfl <;> simp at beyond
      rw [count, State.answerCount, unnamed]
  · subst collector
    have ignored (act : State → State) : (s.begin).hearQuery src.toNat .collector act = s.heardFrom src.toNat .collector :=
      s.hearQuery_of_collector src act takes
    exact ⟨congrArg _ (ignored _), congrArg _ (ignored _), congrArg _ (ignored _)⟩

end Sys2Proof.Machine
end


section
/-! # Posts as bytes: composed, and read back whole (R74, R86, R201, section 11) -/

namespace Sys2Proof.Machine

/-! ## Bytes and words -/

/-- A byte is a word of one byte. -/
theorem byteAt_toNat (bs : List Byte) (i : Nat) : (byteAt bs i).toNat = beAt bs i 1 := by
  by_cases inside : i < bs.length
  · have one : (bs.drop i).take 1 = [bs[i]] := by
      rw [List.drop_eq_getElem_cons inside]
      rfl
    simp [byteAt, beAt, one, beNat, inside]
  · simp [byteAt, beAt, List.drop_eq_nil_of_le (Nat.le_of_not_lt inside), beNat, inside]

theorem beAt_byte (b : Byte) (rest : List Byte) : beAt (b :: rest) 0 1 = b.toNat := by
  simp [beAt, beNat]

theorem beAt_last {n v : Nat} (h : v < 256 ^ n) : beAt (beBytes n v) 0 n = v := by
  simpa using beAt_field h []

theorem beAt_cons (b : Byte) (rest : List Byte) {i : Nat} (h : 1 ≤ i) (n : Nat) :
    beAt (b :: rest) i n = beAt rest (i - 1) n :=
  beAt_of_length_le (a := [b]) h rest n

theorem checkWord_lt (bs : List Byte) : checkWord bs < 256 ^ 2 :=
  Nat.lt_succ_of_le (Nat.sub_le 65535 _)

/-! ## A composed post is read back -/

@[simp] theorem kindOf_code (k : Kind) : kindOf k.code = some k := by
  cases k <;> rfl

theorem kindOf_eq_some_iff (code : Byte) (k : Kind) : kindOf code = some k ↔ k.code = code := by
  refine ⟨fun found => ?_, ?_⟩
  · simpa using List.find?_some found
  · rintro rfl
    exact kindOf_code k

/-- The bytes CHECK covers, for any header and body (section 11.2). -/
def coveredPart (source kind : Byte) (mask : BitVec 16) (body : List Byte) : List Byte :=
  [source, kind] ++ beBytes 2 mask.toNat ++ beBytes 2 body.length ++ body

theorem coveredPart_length (source kind : Byte) (mask : BitVec 16) (body : List Byte) :
    (coveredPart source kind mask body).length = 6 + body.length := by
  simp [coveredPart]
  omega

/-- A post laid out by section 11.2 under its check word is read back part by part. -/
theorem parsePost_of_parts (source kind : Byte) (mask : BitVec 16) {body bytes : List Byte} (fits : body.length ≤ 56)
    (is : bytes = syncByte :: coveredPart source kind mask body ++
      beBytes 2 (checkWord (coveredPart source kind mask body))) :
    parsePost bytes =
      some { src := source.toNat / 16, role := roleOf (source.toNat % 16), kind := kindOf kind, mask := mask
             body := body } := by
  set covered := coveredPart source kind mask body with covered_is
  have covered_length : covered.length = 6 + body.length := coveredPart_length source kind mask body
  have parts : bytes = [syncByte, source, kind] ++ (beBytes 2 mask.toNat ++ (beBytes 2 body.length ++
      (body ++ beBytes 2 (checkWord covered)))) := by
    simp [is, covered_is, coveredPart]
  have whole : bytes.length = 9 + body.length := by
    simp [is, covered_length]
    omega
  have length : beAt bytes 5 2 = body.length := by
    rw [parts]
    simp (disch := simp) only [beAt_of_length_le, List.length_cons, List.length_nil, beBytes_length]
    exact beAt_field (Nat.lt_of_le_of_lt fits (by decide)) _
  have covered_read : (bytes.drop 1).take (6 + body.length) = covered := by
    rw [is]
    exact List.take_left' covered_length
  have check_read : beAt bytes (7 + body.length) 2 = checkWord covered := by
    have before : (syncByte :: covered).length = 7 + body.length := by
      rw [List.length_cons, covered_length]
      omega
    rw [is, ← before, beAt_of_length_le (Nat.le_refl _), Nat.sub_self]
    exact beAt_last (checkWord_lt _)
  have mask_read : BitVec.ofNat 16 (beAt bytes 3 2) = mask := by
    rw [parts]
    simp (disch := simp) only [beAt_of_length_le, List.length_cons, List.length_nil]
    rw [beAt_field mask.isLt, BitVec.ofNat_toNat, BitVec.setWidth_eq]
  have body_read : (bytes.drop 7).take body.length = body := by
    rw [parts, ← List.append_assoc, ← List.append_assoc, List.drop_left' (by simp), List.take_left' rfl]
  have sync : byteAt bytes 0 = syncByte := by rw [parts]; rfl
  have source_read : byteAt bytes 1 = source := by rw [parts]; rfl
  have kind_read : byteAt bytes 2 = kind := by rw [parts]; rfl
  have valid : ¬ (bytes.length < 9 ∨ byteAt bytes 0 ≠ syncByte ∨ 56 < body.length ∨
      bytes.length < 9 + body.length ∨ checkWord covered ≠ checkWord covered) := by
    simp [whole, sync]
    omega
  simp only [parsePost, length, covered_read, check_read, mask_read, body_read, source_read, kind_read, bodyLimit]
  exact if_neg valid

/-- A composed post is read back whole (R74, R86). -/
theorem parsePost_postBytes {strap : Nat} {st : StatusFields} {p : Post} (number : strap < 16)
    (fits : (bodyBytes st p.body).length ≤ 56) :
    parsePost (postBytes strap st p) =
      some { src := strap, role := some .collector, kind := some p.body.kind, mask := p.mask
             body := bodyBytes st p.body } := by
  have source : (BitVec.ofNat 8 (strap * 16 + roleCode .collector)).toNat = strap * 16 + 1 :=
    Nat.mod_eq_of_lt (show strap * 16 + 1 < 256 by omega)
  have parts := parsePost_of_parts (bytes := postBytes strap st p) (BitVec.ofNat 8 (strap * 16 + roleCode .collector))
    p.body.kind.code p.mask fits rfl
  rw [parts, source, kindOf_code, show (strap * 16 + 1) / 16 = strap by omega, show (strap * 16 + 1) % 16 = 1 by omega]
  rfl

/-! ## The bodies -/

theorem recordBody_length_of_routeEnd {x : Record} {f : RouteEndFields} (is : x.body = .routeEnd f) :
    (recordBody x).length = 17 := by
  simp [recordBody, is]

theorem recordBody_length_of_meter {x : Record} (is : ∀ f, x.body ≠ .routeEnd f) : (recordBody x).length = 38 := by
  unfold recordBody
  cases body : x.body with
  | read f => cases measures : f.measures <;> simp [measureBytes, measures]
  | missed f => simp
  | routeEnd f => exact absurd body (is f)

/-- The lengths of the bodies (section 11.2); a STATUS carries one pair for each alert slot. -/
theorem statusBody_length {st : StatusFields} (slots : st.slots.length = 4) : (bodyBytes st .status).length = 56 := by
  rw [statusBody_eq, List.length_append, List.length_flatMap]
  simp [statusHead, slotBytes_length, slots]

theorem settingBytes_length (c : Settings) : (settingBytes c).length = 30 := by
  simp [settingBytes]

/-- Fields of one length, one after another, behind the bytes `a`: the field at place `i`. -/
theorem beAt_flatMap {α : Type} {g : α → List Byte} {k : Nat} (length : ∀ x, (g x).length = k) {l : List α} {i : Nat}
    {x : α} (h : l[i]? = some x) (a : List Byte) (n : Nat) (m : Nat) (at_ : m = a.length + k * i) :
    ∃ rest, beAt (a ++ l.flatMap g) m n = beAt (g x ++ rest) 0 n := by
  obtain ⟨rest, e⟩ := drop_flatMap_of_length length h
  refine ⟨rest, ?_⟩
  rw [at_, beAt_after, beAt, e]
  rfl

/-! ## The fields of the bodies: each is read past the fields before it -/

theorem alert_words (st : StatusFields) (slot : Fin 4) (seq : Nat) (m : MeterId) (fs : FindingSet) (watch : Bool)
    (severity : Nat) (small : seq < 2 ^ 32) (level : severity ≤ 3) :
    let b := bodyBytes st (.alert slot seq m fs watch severity)
    beAt b 0 1 = slot.val ∧ beAt b 1 4 = seq ∧ beAt b 5 4 = m.toNat ∧ beAt b 9 2 = fs.toNat ∧
      beAt b 11 1 = (if watch = true then 128 else 0) + severity := by
  simp (disch := simp) only [bodyBytes, List.append_assoc, beAt_of_length_le, beBytes_length]
  refine ⟨beAt_field (slot.isLt.trans (by decide)) _, beAt_field small _, beAt_field m.isLt _,
    beAt_field (fs.isLt.trans (by decide)) _, ?_⟩
  rw [beAt_byte]
  cases watch <;> simp <;> omega

theorem claim_words (st : StatusFields) (m : MeterId) (quality : Nat) (hold : Hold) (small : quality ≤ 63) :
    let b := bodyBytes st (.claim m quality hold)
    beAt b 0 4 = m.toNat ∧ beAt b 4 1 = quality ∧ beAt b 5 1 = if hold = .held then 1 else 0 := by
  simp (disch := simp) only [bodyBytes, List.append_assoc, beAt_of_length_le, beBytes_length]
  refine ⟨beAt_field m.isLt _, beAt_field (by omega) _, ?_⟩
  cases hold <;> rfl

theorem yield_word (st : StatusFields) (m : MeterId) : beAt (bodyBytes st (.yield m)) 0 4 = m.toNat :=
  beAt_last m.isLt

theorem routeGap_words (st : StatusFields) (route missing : Nat) (indices : List Nat) (number : route < 2 ^ 16)
    (count : missing < 2 ^ 16) :
    let b := bodyBytes st (.routeGap route missing indices)
    beAt b 0 2 = route ∧ beAt b 2 2 = missing ∧
      ∀ i x, indices[i]? = some x → x < 2 ^ 16 → beAt b (4 + 2 * i) 2 = x := by
  intro b
  refine ⟨?_, ?_, fun i x is small => ?_⟩
  · simp only [b, bodyBytes, List.append_assoc]
    exact beAt_field number _
  · simp (disch := simp) only [b, bodyBytes, List.append_assoc, beAt_of_length_le, beBytes_length]
    exact beAt_field count _
  · obtain ⟨rest, e⟩ := beAt_flatMap (beBytes_length 2) is (beBytes 2 route ++ beBytes 2 missing) 2 (4 + 2 * i)
      (by simp)
    exact e.trans (beAt_field small _)

theorem portByte_toNat {p : PortSettings} (small : p.levelOffset ≤ 15) : (portByte p).toNat =
    (if p.enable = true then 128 else 0) + (if p.keepNewest = true then 64 else 0) + p.levelOffset := by
  unfold portByte
  cases p.enable <;> cases p.keepNewest <;> simp <;> omega

/-- The settings of a CONFIG-REPORT stand where the configuration block has them (section 11.5). -/
theorem configReport_words (st : StatusFields) (strap : Nat) (isDefault clamped : Bool) (c : Settings)
    (number : strap < 16) (range : settingsInRange c) :
    let b := bodyBytes st (.configReport strap isDefault clamped c)
    beAt b 0 1 = strap * 16 + (if isDefault = true then 2 else 0) + (if clamped = true then 1 else 0) ∧
      beAt b 1 1 = (if c.strayCapture = true then 128 else 0) + c.sector ∧
      beAt b 2 1 = (portByte c.portA).toNat ∧ beAt b 3 1 = (portByte c.portB).toNat ∧
      beAt b 4 2 = c.acceptMask.toNat ∧ beAt b 6 4 = c.prefixMask.toNat ∧ beAt b 10 4 = c.prefixValue.toNat ∧
      beAt b 14 1 = c.window ∧ beAt b 15 1 = c.limit ∧ beAt b 16 1 = c.idleTimeout ∧ beAt b 17 1 = c.holdOff ∧
      beAt b 18 1 = c.settle ∧ beAt b 19 1 = c.statusInterval ∧ beAt b 20 1 = c.peerSilence ∧
      beAt b 21 1 = c.threshold ∧ beAt b 22 2 = c.stallAge ∧ beAt b 24 1 = c.commitWait ∧
      beAt b 25 1 = c.parkReturn ∧ beAt b 26 1 = c.supplyLevel ∧ beAt b 27 4 = 0 := by
  obtain ⟨sector, -, -, -, -, window, -, limit, -, idle, holdOff, -, settle, -, interval, -, -, silence, -, threshold,
    stallAge, -, commitWait, -, parkReturn, supply⟩ := range
  simp (disch := simp) only [bodyBytes, settingBytes, List.append_assoc, List.cons_append, List.nil_append, beAt_cons,
    beAt_of_length_le, beBytes_length]
  refine ⟨?_, ?_, beAt_byte _ _, beAt_byte _ _, beAt_field c.acceptMask.isLt _, beAt_field c.prefixMask.isLt _,
    beAt_field c.prefixValue.isLt _, beAt_field (by omega) _, beAt_field (by omega) _, beAt_field (by omega) _,
    beAt_field (by omega) _, beAt_field (by omega) _, beAt_field (by omega) _, beAt_field (by omega) _,
    beAt_field (by omega) _, beAt_field (by omega) _, beAt_field (by omega) _, beAt_field (by omega) _,
    beAt_field (by omega) _, beAt_last (by decide)⟩
  · rw [beAt_byte]
    cases isDefault <;> cases clamped <;> simp <;> omega
  · rw [beAt_byte]
    cases c.strayCapture <;> simp <;> omega

theorem countReport_words (st : StatusFields) (part : Part) (counters : List Counter) :
    let b := bodyBytes st (.countReport part counters)
    beAt b 0 1 = partCode part ∧ ∀ i c, counters[i]? = some c → beAt b (1 + 4 * i) 4 = c.toNat := by
  refine ⟨beAt_field (by cases part <;> decide) _, fun i c is => ?_⟩
  obtain ⟨rest, e⟩ := beAt_flatMap (fun c : Counter => beBytes_length 4 c.toNat) is (beBytes 1 (partCode part)) 4
    (1 + 4 * i) (by simp)
  exact e.trans (beAt_field c.isLt _)

theorem batchEnd_words (st : StatusFields) (n : Nat) (ends : Option (Nat × Nat)) (count : n ≤ 16)
    (low : (ends.map Prod.fst).getD 0 < 2 ^ 32) (high : (ends.map Prod.snd).getD 0 < 2 ^ 32) :
    let b := bodyBytes st (.batchEnd n ends)
    beAt b 0 1 = n ∧ beAt b 1 4 = (ends.map Prod.fst).getD 0 ∧ beAt b 5 4 = (ends.map Prod.snd).getD 0 := by
  simp (disch := simp) only [bodyBytes, List.append_assoc, beAt_of_length_le, beBytes_length]
  exact ⟨beAt_field (by omega) _, beAt_field low _, beAt_last high⟩

/-! ## The fields of a RECORD -/

theorem recordStateByte_toNat (x : Record) : (recordStateByte x).toNat =
    recordKindCode x.body * 64 + (if x.openState = .closed then 32 else 0) +
      (if x.mark = .sentInBatch then 16 else 0) + alertCode x.alert := by
  have kind : recordKindCode x.body ≤ 2 := by cases x.body <;> simp [recordKindCode]
  have alert : alertCode x.alert ≤ 3 := by cases x.alert <;> decide
  refine Nat.mod_eq_of_lt ?_
  split <;> split <;> omega

theorem record_words (x : Record) (seq : x.seq < 2 ^ 32) (route : x.route < 2 ^ 16) :
    beAt (recordBody x) 0 4 = x.seq ∧ beAt (recordBody x) 4 1 = (recordStateByte x).toNat ∧
      beAt (recordBody x) 5 2 = x.route := by
  simp (disch := simp) only [recordBody, List.append_assoc, List.cons_append, List.nil_append, beAt_cons,
    beAt_of_length_le, beBytes_length]
  exact ⟨beAt_field seq _, beAt_byte _ _, beAt_field route _⟩

@[simp] theorem measureBytes_length (m : Option Measures) : (measureBytes m).length = 6 := by
  cases m <;> simp [measureBytes]

theorem marksByte_toNat (f : ReadFields) : (marksByte f).toNat =
    (if f.measures.isSome = true then 128 else 0) + 64 + (if f.marks.interrupted = true then 16 else 0) +
      (if f.marks.double = true then 8 else 0) + (if f.marks.solo = true then 4 else 0) +
      (if f.marks.reread = true then 2 else 0) + (if f.marks.stray = true then 1 else 0) := by
  have all : ∀ a b c d e g : Bool, (bitByte a true false b c d e g).toNat =
      (if a = true then 128 else 0) + 64 + (if b = true then 16 else 0) + (if c = true then 8 else 0) +
        (if d = true then 4 else 0) + (if e = true then 2 else 0) + (if g = true then 1 else 0) := by
    decide
  exact all _ _ _ _ _ _

theorem read_words {x : Record} {f : ReadFields} (is : x.body = .read f) (utility : f.utility < 16)
    (dials : f.dials < 16) (reading : f.reading < 2 ^ 28) (resets : f.resets < 16) (quality : f.quality ≤ 63)
    (arrivals : f.arrivals < 2 ^ 16) :
    let b := recordBody x
    beAt b 7 4 = f.meter.toNat ∧ beAt b 11 1 = f.utility * 16 + f.dials ∧ beAt b 12 4 = f.reading ∧
      beAt b 22 1 = f.flags.toNat ∧ beAt b 23 1 = f.resets ∧ beAt b 24 1 = f.quality ∧
      beAt b 25 4 = min f.firstHeard 4294967295 ∧ beAt b 29 4 = min f.lastHeard 4294967295 ∧
      beAt b 33 2 = f.arrivals ∧ beAt b 35 2 = f.findings.toNat ∧ beAt b 37 1 = (marksByte f).toNat := by
  simp (disch := simp) only [recordBody, is, List.append_assoc, List.cons_append, List.nil_append, beAt_cons,
    beAt_of_length_le, beBytes_length, measureBytes_length, max32]
  refine ⟨beAt_field f.meter.isLt _, ?_, beAt_field (by omega) _, ?_, beAt_field (by omega) _, beAt_field (by omega) _,
    beAt_field (by omega) _, beAt_field (by omega) _, beAt_field arrivals _,
    beAt_field (f.findings.isLt.trans (by decide)) _, beAt_byte _ _⟩
  · rw [beAt_byte]
    exact Nat.mod_eq_of_lt (by omega)
  · rw [beAt_byte]
    exact BitVec.toNat_setWidth_of_le (by decide)

theorem measure_words {x : Record} {f : ReadFields} (is : x.body = .read f) :
    (f.measures = none → beAt (recordBody x) 16 6 = 0) ∧
    ∀ m, f.measures = some m → beAt (recordBody x) 16 4 = (BitVec.ofInt 32 m.advance).toNat ∧
      (m.rate < 2 ^ 16 → beAt (recordBody x) 20 2 = m.rate) := by
  refine ⟨fun absent => ?_, fun m measured => ?_⟩
  · simp (disch := simp) only [recordBody, is, absent, measureBytes, List.append_assoc, List.cons_append,
      List.nil_append, beAt_cons, beAt_of_length_le, beBytes_length]
    exact beAt_field (by decide) _
  · simp (disch := simp) only [recordBody, is, measured, measureBytes, List.append_assoc, List.cons_append,
      List.nil_append, beAt_cons, beAt_of_length_le, beBytes_length]
    exact ⟨beAt_field (BitVec.isLt _) _, fun rate => beAt_field rate _⟩

theorem missed_words {x : Record} {f : MissedFields} (is : x.body = .missed f) (dials : f.dials < 16)
    (prior : f.prior < 2 ^ 28) (resets : ∀ k, f.resets = some k → k < 16) :
    let b := recordBody x
    beAt b 7 4 = f.meter.toNat ∧ beAt b 11 1 = f.dials ∧ beAt b 12 4 = f.prior ∧ beAt b 16 6 = 0 ∧
      beAt b 22 1 = 0 ∧ beAt b 23 1 = f.resets.getD 0 ∧ beAt b 24 13 = 0 ∧
      beAt b 37 1 = if f.resets.isSome = true then 64 else 0 := by
  have small : f.resets.getD 0 < 16 := by
    cases known : f.resets with
    | none => decide
    | some k => exact resets k known
  have zeros (rest : List Byte) :
      beBytes 1 0 ++ (beBytes 8 0 ++ (beBytes 2 0 ++ (beBytes 2 0 ++ rest))) = beBytes 13 0 ++ rest := rfl
  simp (disch := simp) only [recordBody, is, List.append_assoc, List.cons_append, List.nil_append, beAt_cons,
    beAt_of_length_le, beBytes_length, zeros]
  refine ⟨beAt_field f.meter.isLt _, ?_, beAt_field (by omega) _, beAt_field (by decide) _, beAt_field (by decide) _,
    beAt_field (by omega) _, beAt_field (by decide) _, ?_⟩
  · rw [beAt_byte]
    exact Nat.mod_eq_of_lt (by omega)
  · rw [beAt_byte]
    cases f.resets.isSome <;> rfl

theorem routeEnd_words {x : Record} {f : RouteEndFields} (is : x.body = .routeEnd f) (here : f.readHere < 2 ^ 16)
    (peer : f.readPeer < 2 ^ 16) (listed : f.missedListed < 2 ^ 16) (unlisted : f.missedUnlisted < 2 ^ 16)
    (findings : f.withFindings < 2 ^ 16) :
    let b := recordBody x
    beAt b 7 2 = f.readHere ∧ beAt b 9 2 = f.readPeer ∧ beAt b 11 2 = f.missedListed ∧
      beAt b 13 2 = f.missedUnlisted ∧ beAt b 15 2 = f.withFindings := by
  simp (disch := simp) only [recordBody, is, List.append_assoc, List.cons_append, List.nil_append, beAt_cons,
    beAt_of_length_le, beBytes_length]
  exact ⟨beAt_field here _, beAt_field peer _, beAt_field listed _, beAt_field unlisted _, beAt_last findings⟩

/-! ## The statement -/

/-- Settles O24: the check reads a composed post back, and each body is read field by field. -/
theorem composedPostIsReadBackWhole : Obligations.ComposedPostIsReadBackWhole := by
  unfold Obligations.ComposedPostIsReadBackWhole
  refine ⟨fun fs f => ?_, fun strap st p number fits => parsePost_postBytes number fits, fun s b => ?_, fun st => ?_⟩
  · rw [hasFinding, ← BitVec.testBit_toNat]
    cases f <;> rfl
  · cases b with
    | status => exact statusBody_length rfl
    | claim m quality hold => simp [bodyBytes]
    | yield m => simp [bodyBytes]
    | alert slot seq m fs watch severity => simp [bodyBytes]
    | routeGap route missing indices => simp [bodyBytes, List.length_flatMap]; omega
    | configReport strap isDefault clamped c => simp [bodyBytes, settingBytes_length]
    | countReport part counters => simp [bodyBytes, List.length_flatMap]; omega
    | record x =>
      cases body : x.body with
      | routeEnd f => simp [bodyBytes, recordBody_length_of_routeEnd body, body]
      | read f => simp [bodyBytes, recordBody_length_of_meter (x := x) (by simp [body]), body]
      | missed f => simp [bodyBytes, recordBody_length_of_meter (x := x) (by simp [body]), body]
    | batchEnd n ends => simp [bodyBytes]
  · intro byte word
    have byte_eq (b : PostBody) (i : Nat) : byte b i = beAt (bodyBytes st b) i 1 := byteAt_toNat _ i
    clear_value byte
    simp only [byte_eq]
    refine ⟨fun slot seq m fs watch severity => alert_words st slot seq m fs watch severity,
      fun m quality hold => claim_words st m quality hold, yield_word st,
      fun route missing indices => routeGap_words st route missing indices, ?_, fun part counters => ?_,
      fun n lowest highest count low high => batchEnd_words st n (some (lowest, highest)) count low high,
      fun n count => batchEnd_words st n none count (by decide) (by decide), fun x seq route => ?_⟩
    · intro strap isDefault clamped c number range
      have words := configReport_words st strap isDefault clamped c number range
      obtain ⟨-, portA, portB, -⟩ := id range
      rwa [portByte_toNat portA, portByte_toNat portB] at words
    · obtain ⟨first, rest⟩ := countReport_words st part counters
      refine ⟨first.trans ?_, rest⟩
      cases part <;> rfl
    · obtain ⟨seq_read, state_read, route_read⟩ := record_words x seq route
      refine ⟨seq_read, route_read, ?_, fun f is utility dials reading resets quality arrivals => ?_,
        fun f is dials prior resets => missed_words is dials prior resets,
        fun f is here peer listed unlisted findings => routeEnd_words is here peer listed unlisted findings⟩
      · refine state_read.trans ((recordStateByte_toNat x).trans ?_)
        cases x.body <;> cases x.alert <;> rfl
      · obtain ⟨meter, digits, value, flags, resets, quality, first, last, arrivals, findings, marks⟩ :=
          read_words is utility dials reading resets quality arrivals
        obtain ⟨absent, present⟩ := measure_words is
        refine ⟨meter, digits, value, absent, fun m measured low high rate => ?_, flags, resets, quality, first, last,
          arrivals, findings, marks.trans (marksByte_toNat f)⟩
        obtain ⟨advance, rate_read⟩ := present m measured
        refine ⟨?_, rate_read rate⟩
        calc (BitVec.ofNat 32 (word (.record x) 16 4)).toInt
            = (BitVec.ofInt 32 m.advance).toInt := by
              rw [show word (.record x) 16 4 = (BitVec.ofInt 32 m.advance).toNat from advance, BitVec.ofNat_toNat,
                BitVec.setWidth_eq]
          _ = m.advance := BitVec.toInt_ofInt_eq_self (by decide) low high

end Sys2Proof.Machine
end


section
/-! # The receiver: what a stretch of line activity does, judged by its bytes and its sender (R85 to R88, R202) -/

namespace Sys2Proof.Machine

/-! ## A valid post, and who it is for -/

theorem parsePost_eq_some {bs : List Byte} {h : Heard} (parses : parsePost bs = some h) :
    h = { src := (byteAt bs 1).toNat / 16, role := roleOf ((byteAt bs 1).toNat % 16), kind := kindOf (byteAt bs 2)
          mask := BitVec.ofNat 16 (beAt bs 3 2), body := (bs.drop 7).take (beAt bs 5 2) } := by
  simp only [parsePost] at parses
  split at parses
  · cases parses
  · exact (Option.some.inj parses).symm

theorem parsePost_src_lt {bs : List Byte} {h : Heard} (parses : parsePost bs = some h) : h.src < 16 := by
  have small := (byteAt bs 1).isLt
  rw [parsePost_eq_some parses]
  dsimp only
  omega

/-- A station without a number is addressed by all fifteen positions of MASK (R88, R201). -/
theorem State.addressedBy_iff (s : State) (mask : BitVec 16) : s.addressedBy mask = true ↔
    if s.main.strap = 0 then ∀ i, 1 ≤ i → i ≤ 15 → mask.getLsbD i = true else mask.getLsbD s.main.strap = true := by
  unfold State.addressedBy
  split
  · rw [beq_iff_eq]
    refine ⟨fun all i low high => ?_, fun each => BitVec.eq_of_getLsbD_eq fun i small => ?_⟩
    · have bit := congrArg (BitVec.getLsbD · i) all
      interval_cases i <;> simpa using bit
    · rcases Nat.eq_zero_or_pos i with rfl | low
      · simp
      · have bit := each i low (by omega)
        interval_cases i <;> simp [bit]
  · rfl

/-! ## What a received post does -/

/-- Only the state that has heard the sender is acted on, so that two acts equal there make one effect. -/
theorem State.hear_congr {s : State} {src : Nat} {r : Role} {act other : State → State}
    (same : act ((s.setLine .quiet).hearPeer src r) = other ((s.setLine .quiet).hearPeer src r)) :
    s.hear src (some r) act = s.hear src (some r) other := by
  unfold State.hear
  split
  · rename_i receives
    simp only [s.postPasses_of_receives receives, State.judgeSender, same]
  · rfl

theorem exec_postReceived {bytes : List Byte} {h : Heard} (parses : parsePost bytes = some h) (s : State) :
    exec (.postReceived bytes) s = .next (s.begin.hear h.src h.role fun t => t.actOnPost h) := by
  simp only [exec, execPostReceived, done, State.hearBytes, parses]

section

variable {s : State} {h : Heard} {r : Role} {k : Kind} (role : h.role = some r) (kind : h.kind = some k)
include role kind

theorem State.actOnPost_of_anyMask (takes : kindTakesRole k r = true) (any : kindTakesAnyMask k = true)
    (length : lengthAllowed k h.body.length = true) : s.actOnPost h = s.actOnKind k h.src h.body := by
  simp [State.actOnPost, role, kind, takes, any, length]

theorem State.actOnPost_of_addressed (takes : kindTakesRole k r = true) (one : kindTakesAnyMask k = false)
    (addressed : s.addressedBy h.mask = true) (length : lengthAllowed k h.body.length = true) :
    s.actOnPost h = s.restartParkReturn.actOnKind k h.src h.body := by
  simp [State.actOnPost, role, kind, takes, one, addressed, length]

/-- R88 and R202 ignore a post of a role not listed for its kind, one not addressed where the kind requires it, and one
of a length that the kind table does not allow. -/
theorem State.actOnPost_of_ignored (ignored : kindTakesRole k r = false ∨
      (kindTakesAnyMask k = false ∧ s.addressedBy h.mask = false) ∨ lengthAllowed k h.body.length = false) :
    s.actOnPost h = s := by
  simp only [State.actOnPost, role, kind]
  rw [if_neg]
  rcases ignored with unlisted | ⟨one, other⟩ | length <;> simp [*]

end

/-! ## CLAIM and YIELD from their bytes -/

theorem exec_postReceived_composed (n : BitVec 4) (st : StatusFields) (p : Post)
    (fits : (bodyBytes st p.body).length ≤ 56) (s : State) {act : State → State}
    (acts : ∀ t : State, t.actOnPost
      { src := n.toNat, role := some .collector, kind := some p.body.kind, mask := p.mask
        body := bodyBytes st p.body } = act t) :
    exec (.postReceived (postBytes n.toNat st p)) s = .next (s.begin.hear n.toNat (some .collector) act) := by
  rw [exec_postReceived (parsePost_postBytes n.isLt fits)]
  exact congrArg _ (State.hear_congr (acts _))

/-- Settles O25: a CLAIM and a YIELD are read back whole, and their fields are the operands of the command. -/
theorem claimOnTheLineActsAsClaimCommand : Obligations.ClaimOnTheLineActsAsClaimCommand := by
  unfold Obligations.ClaimOnTheLineActsAsClaimCommand
  intro n st m q hold s
  refine ⟨exec_postReceived_composed n st (claimPost m q.toNat hold) (by simp [claimPost, bodyBytes]) s fun t => ?_,
    exec_postReceived_composed n st (yieldPost m) (by simp [yieldPost, bodyBytes]) s fun t => ?_⟩
  · have small : q.toNat ≤ 63 := Nat.le_of_lt_succ q.isLt
    obtain ⟨meter, quality, code⟩ := claim_words st m q.toNat hold small
    have held : decodeHold (byteAt (bodyBytes st (.claim m q.toNat hold)) 5) = hold := by
      rw [decodeHold, ← BitVec.testBit_toNat, byteAt_toNat, code]
      cases hold <;> rfl
    rw [State.actOnPost_of_anyMask rfl rfl rfl rfl rfl]
    simp only [State.actOnKind, claimPost, PostBody.kind, meter, byteAt_toNat, quality, held, BitVec.ofNat_toNat,
      BitVec.setWidth_eq, Nat.mod_eq_of_lt q.isLt]
  · rw [State.actOnPost_of_anyMask rfl rfl rfl rfl rfl]
    simp only [State.actOnKind, yieldPost, PostBody.kind, yield_word, BitVec.ofNat_toNat, BitVec.setWidth_eq]

/-! ## Addressed posts from their bytes -/

theorem exec_postReceived_addressed {bytes : List Byte} {h : Heard} {r : Role} {k : Kind} {s : State}
    (parses : parsePost bytes = some h) (role : h.role = some r) (kind : h.kind = some k)
    (addressed : s.addressedBy h.mask = true) (length : lengthAllowed k h.body.length = true)
    (takes : kindTakesRole k r = true) (one : kindTakesAnyMask k = false) :
    exec (.postReceived bytes) s =
      .next (s.begin.hearAddressed h.src r fun t => t.actOnKind k h.src h.body) := by
  rw [exec_postReceived parses, role]
  exact congrArg _ (State.hear_congr (State.actOnPost_of_addressed role kind takes one addressed length))

theorem State.hearQuery_eq {r : Role} (other : r ≠ .collector) (s : State) (src : Nat) (act : State → State) :
    s.hearQuery src r act = s.hearAddressed src r act := by
  simp only [State.hearQuery, State.hearAddressed, if_neg other]

/-! ### The entries of a ROUTE-ENTRY -/

/-- The bytes of one entry are read from its place in the body. -/
theorem beAt_drop_take {bs : List Byte} {k m i n : Nat} (inside : i + n ≤ m) :
    beAt ((bs.drop k).take m) i n = beAt bs (k + i) n := by
  rw [beAt, beAt, List.drop_take, List.take_take, List.drop_drop, Nat.min_eq_left (by omega)]

theorem beAt_top_half_byte {bs : List Byte} {i : Nat} (inside : i + 3 < bs.length) :
    beAt bs i 4 / 2 ^ 28 = (byteAt bs i).toNat / 16 := by
  have second := (byteAt bs (i + 1)).isLt
  have third := (byteAt bs (i + 2)).isLt
  have fourth := (byteAt bs (i + 3)).isLt
  rw [beAt_four bs i inside]
  omega

theorem byteAt_drop_take {bs : List Byte} {k m i : Nat} (inside : i < m) :
    byteAt ((bs.drop k).take m) i = byteAt bs (k + i) :=
  BitVec.eq_of_toNat_eq (by rw [byteAt_toNat, byteAt_toNat, beAt_drop_take inside])

/-- An entry whose fields are the values at the positions of section 11.4 is the one decoded from them. -/
theorem decodeEntry_eq {body : List Byte} {at_ : Nat} (inside : at_ + 17 ≤ body.length) {e : EntryFields}
    (index : e.index.toNat = beAt body at_ 2) (meter : e.meter.toNat = beAt body (at_ + 2) 4)
    (dr : e.dr.toNat = (byteAt body (at_ + 6)).toNat / 16) (p : e.p.toNat = beAt body (at_ + 6) 4 % 2 ^ 28)
    (watch : e.watch = decide (2 ^ 23 ≤ beAt body (at_ + 10) 3)) (a : e.a.toNat = beAt body (at_ + 10) 3 % 2 ^ 20)
    (c : e.c.toNat = beAt body (at_ + 13) 2) (b : e.b.toNat = (byteAt body (at_ + 15)).toNat)
    (kr : e.kr.map BitVec.toNat =
      if beAt body (at_ + 10) 3 / 2 ^ 22 % 2 = 1 then some ((byteAt body (at_ + 16)).toNat / 16) else none)
    (hint : e.hint.map BitVec.toNat =
      if beAt body (at_ + 10) 3 / 2 ^ 21 % 2 = 1 then some ((byteAt body (at_ + 16)).toNat % 4) else none) :
    decodeEntry ((body.drop at_).take 17) = e := by
  have flags : beAt body (at_ + 10) 3 < 2 ^ 24 := beAt_lt body (at_ + 10) 3
  have last := (byteAt body (at_ + 16)).isLt
  have injective {w : Nat} : Function.Injective (Option.map (BitVec.toNat (w := w))) :=
    Option.map_injective fun _ _ => BitVec.eq_of_toNat_eq
  rcases e with ⟨e_index, e_meter, e_dr, e_p, e_a, e_c, e_b, e_kr, e_hint, e_watch⟩
  dsimp only at index meter dr p watch a c b kr hint
  simp (disch := decide) only [decodeEntry, beAt_drop_take, byteAt_drop_take, Nat.add_zero, EntryFields.mk.injEq]
  refine ⟨?_, ?_, ?_, ?_, ?_, ?_, ?_, injective ?_, injective ?_, ?_⟩
  · exact BitVec.eq_of_toNat_eq (by rw [index]; exact Nat.mod_eq_of_lt (beAt_lt body at_ 2))
  · exact BitVec.eq_of_toNat_eq (by rw [meter]; exact Nat.mod_eq_of_lt (beAt_lt body (at_ + 2) 4))
  · rw [beAt_top_half_byte (by omega), ← dr, BitVec.ofNat_toNat, BitVec.setWidth_eq]
  · exact BitVec.eq_of_toNat_eq p.symm
  · exact BitVec.eq_of_toNat_eq a.symm
  · exact BitVec.eq_of_toNat_eq (by rw [c]; exact Nat.mod_eq_of_lt (beAt_lt body (at_ + 13) 2))
  · exact BitVec.eq_of_toNat_eq b.symm
  · rw [kr]
    split
    · exact congrArg some (Nat.mod_eq_of_lt (by omega))
    · rfl
  · rw [hint]
    split
    · rfl
    · rfl
  · rw [watch, Bool.eq_iff_iff, beq_iff_eq, decide_eq_true_iff]
    omega

theorem decodeEntries_eq {body : List Byte} {es : List EntryFields} (count : es.length = body.length / 17)
    (each : ∀ i e, es[i]? = some e → decodeEntry ((body.drop (17 * i)).take 17) = e) : decodeEntries body = es := by
  refine List.ext_getElem (by simp [decodeEntries, count]) fun i left right => ?_
  simp only [decodeEntries, List.getElem_map, List.getElem_range]
  exact each i _ (List.getElem?_eq_getElem right)

theorem toNat_ofNat_beAt (body : List Byte) (i n : Nat) :
    (BitVec.ofNat (8 * n) (beAt body i n)).toNat = beAt body i n := by
  rw [BitVec.toNat_ofNat, Nat.pow_mul]
  exact Nat.mod_eq_of_lt (beAt_lt body i n)

/-- Settles O26: an addressed post is acted on with its kind's row, and the operands are read where they stand. -/
theorem addressedPostActsAsItsCommand : Obligations.AddressedPostActsAsItsCommand := by
  unfold Obligations.AddressedPostActsAsItsCommand
  intro bytes h r k s parses role kind addressed length src does byte word
  have addressed : s.addressedBy h.mask = true := (s.addressedBy_iff h.mask).2 addressed
  have number : src.toNat = h.src := Nat.mod_eq_of_lt (parsePost_src_lt parses)
  have does_row {i : Instr}
      (row : exec i s = .next (s.begin.hearAddressed src.toNat r fun t => t.actOnKind k src.toNat h.body))
      (takes : kindTakesRole k r = true) (one : kindTakesAnyMask k = false) : does i := by
    rw [number] at row
    exact (exec_postReceived_addressed parses role kind addressed length takes one).trans row.symm
  have value (i n : Nat) : (BitVec.ofNat (8 * n) (word i n)).toNat = beAt h.body i n := toNat_ofNat_beAt h.body i n
  refine ⟨?_, ?_, fun other => ?_⟩
  · rintro rfl
    refine ⟨?_, ?_, ?_, ?_, ?_, ?_, ?_⟩
    · rintro rfl
      exact does_row (congrArg (fun v => done (s.begin.hearAddressed src.toNat .console fun t =>
        t.ackAlert (byteAt h.body 0) v)) (value 1 4)) rfl rfl
    · rintro rfl
      exact does_row (congrArg₂ (fun v w => done (s.begin.hearAddressed src.toNat .console fun t =>
        t.routeBegun v w)) (value 0 2) (value 2 2)) rfl rfl
    · rintro rfl es count fields
      have whole : 17 * es.length ≤ h.body.length := by omega
      have entries : decodeEntries h.body = es := decodeEntries_eq count fun i e is => by
        obtain ⟨index, meter, dr, p, watch, a, c, b, kr, hint⟩ := fields i e is
        have place : i < es.length := (List.getElem?_eq_some_iff.1 is).1
        exact decodeEntry_eq (by omega) index meter dr p watch a c b kr hint
      exact does_row (congrArg (fun es => done (s.begin.hearAddressed src.toNat .console fun t =>
        t.takeEntries es)) entries.symm) rfl rfl
    · rintro rfl
      exact does_row rfl rfl rfl
    · rintro rfl
      exact does_row rfl rfl rfl
    · rintro rfl
      exact does_row rfl rfl rfl
    · rintro rfl
      exact does_row rfl rfl rfl
  · rintro rfl
    refine ⟨?_, ?_, ?_⟩
    · rintro rfl
      exact does_row rfl rfl rfl
    · rintro rfl
      exact does_row (congrArg (fun v => done (s.begin.hearAddressed src.toNat .dock fun t =>
        t.commitDrain src.toNat v)) (value 0 4)) rfl rfl
    · rintro rfl
      exact does_row rfl rfl rfl
  · have query (act : State → State) := congrArg done (State.hearQuery_eq other s.begin src.toNat act)
    have takes : (r != .collector) = true := bne_iff_ne.2 other
    refine ⟨?_, ?_, ?_⟩
    · rintro rfl
      exact does_row (query _) takes rfl
    · rintro rfl
      exact does_row (query _) takes rfl
    · rintro rfl
      exact does_row (query _) takes rfl

/-! ## The judgement of a stretch -/

/-- The faults of R86, one after another. -/
theorem parsePost_eq_none_iff (bs : List Byte) : parsePost bs = none ↔
    bs.length < 9 ∨ byteAt bs 0 ≠ syncByte ∨ 56 < beAt bs 5 2 ∨ bs.length < 9 + beAt bs 5 2 ∨
      checkWord ((bs.drop 1).take (6 + beAt bs 5 2)) ≠ beAt bs (7 + beAt bs 5 2) 2 := by
  by_cases fault : bs.length < 9 ∨ byteAt bs 0 ≠ syncByte ∨ bodyLimit < beAt bs 5 2 ∨ bs.length < 9 + beAt bs 5 2 ∨
      checkWord ((bs.drop 1).take (6 + beAt bs 5 2)) ≠ beAt bs (7 + beAt bs 5 2) 2
  · exact iff_of_true (if_pos fault) fault
  · refine iff_of_false (fun fails => ?_) fault
    simp only [parsePost, if_neg fault] at fails
    cases fails

/-- A valid post has its header whole. -/
theorem length_of_parsePost {bs : List Byte} {h : Heard} (parses : parsePost bs = some h) : 9 ≤ bs.length := by
  by_contra short
  have fails := (parsePost_eq_none_iff bs).2 (.inl (Nat.lt_of_not_le short))
  rw [parses] at fails
  cases fails

theorem State.receives_iff (s : State) : s.receives = true ↔
    s.powered = true ∧ (s.main.park = .run ∨ (s.main.park = .linkAwake ∧ s.main.wakeSettle = none)) ∧
      (∀ c, s.main.current = some c → c.attempt = none) ∧ s.pins.line ≠ .missed := by
  have free : s.inAttempt = false ↔ ∀ c, s.main.current = some c → c.attempt = none := by
    rw [State.inAttempt_eq_any]
    cases s.main.current <;> simp
  simp only [State.receives, State.receptive, Bool.and_eq_true, Bool.not_eq_true', State.awake_iff, free, bne_iff_ne,
    and_assoc]

/-- A post that is not received has ended on the line, and that is all (R85). -/
theorem State.hearBytes_of_deaf {s : State} (deaf : s.receives = false) (bytes : List Byte) :
    s.hearBytes bytes = s.postPasses := by
  unfold State.hearBytes State.hear
  split <;> simp [deaf]

/-- A post that names no sender ends on the line and does no more (R87). -/
theorem State.hear_of_unnamed {s : State} {src : Nat} {role : Option Role} {act : State → State}
    (receives : s.receives = true) (unnamed : role = none ∨ src = 0) : s.hear src role act = s.setLine .quiet := by
  rw [State.hear, if_pos receives, s.postPasses_of_receives receives]
  rcases unnamed with rfl | rfl
  · rfl
  · cases role <;> rfl

/-- A post under this station's own number puts it in MUTE (R92). -/
theorem State.hear_of_own {s : State} {src : Nat} {role : Option Role} {act : State → State}
    (receives : s.receives = true) (known : role ≠ none) (number : src ≠ 0) (own : src = s.main.strap) :
    s.hear src role act = (s.setLine .quiet).enterMute := by
  obtain ⟨r, rfl⟩ := Option.ne_none_iff_exists'.1 known
  rw [State.hear, if_pos receives, s.postPasses_of_receives receives]
  exact (if_neg number).trans (if_pos own)

/-- A stretch that forms no whole valid post is counted (R86). -/
theorem State.hearBytes_of_fault {s : State} {bytes : List Byte} (receives : s.receives = true)
    (fault : parsePost bytes = none) : s.hearBytes bytes = (s.setLine .quiet).discardStretch := by
  simp only [State.hearBytes, fault, if_pos receives, s.postPasses_of_receives receives]

/-- A post that R88 or R202 ignores does no more than its sender is heard for (R96). -/
theorem exec_postReceived_ignored {bytes : List Byte} {h : Heard} {r : Role} {s : State}
    (parses : parsePost bytes = some h) (receives : s.receives = true) (role : h.role = some r) (named : h.src ≠ 0)
    (foreign : h.src ≠ s.main.strap)
    (ignored : (s.heardFrom h.src r).actOnPost h = s.heardFrom h.src r) :
    exec (.postReceived bytes) s = .next (s.heardFrom h.src r) := by
  have heard := State.hear_of_takesFrom s.begin h.src r (fun t => t.actOnPost h) receives named foreign
  rw [exec_postReceived parses, role, heard]
  exact congrArg _ ignored

/-- Settles O27: the faults first, then who hears the stretch, who sent it, and what R88 and R202 ignore. -/
theorem receiverJudgesStretchAndSender : Obligations.ReceiverJudgesStretchAndSender := by
  unfold Obligations.ReceiverJudgesStretchAndSender
  refine ⟨fun bytes => ?_, State.receives_iff, fun bytes s => ?_, fun bytes h r s parses receives role named foreign => ?_,
    fun src role s takes => ?_⟩
  · intro byte length
    refine ⟨?_, fun h parses => ?_⟩
    · rw [parsePost_eq_none_iff]
      have sync : byteAt bytes 0 ≠ syncByte ↔ byte 0 ≠ 0x96 := BitVec.toNat_ne
      by_cases short : bytes.length < 9
      · have shorter : bytes.length < 9 + length := by omega
        simp only [short, shorter, true_or, or_true]
      · have word : beAt bytes 5 2 = length := beAt_two bytes 5 (by omega)
        rw [word, sync]
        by_cases cut : bytes.length < 9 + length
        · simp only [cut, true_or, or_true]
        · have check : beAt bytes (7 + length) 2 = byte (7 + length) * 256 + byte (8 + length) := by
            rw [beAt_two bytes (7 + length) (by omega), show 7 + length + 1 = 8 + length by omega]
          simp only [short, false_or, check]
    · have header := length_of_parsePost parses
      have word : beAt bytes 5 2 = length := beAt_two bytes 5 (by omega)
      have mask : beAt bytes 3 2 = byte 3 * 256 + byte 4 := beAt_two bytes 3 (by omega)
      rw [parsePost_eq_some parses, ← mask, ← word]
      exact ⟨rfl, rfl, fun k => kindOf_eq_some_iff _ k, toNat_ofNat_beAt bytes 3 2, rfl⟩
  · intro ended
    have deaf_next (deaf : s.receives = false) : exec (.postReceived bytes) s = .next (s.begin).postPasses :=
      congrArg done (State.hearBytes_of_deaf (s := s.begin) deaf bytes)
    refine ⟨fun busy => ?_, fun free deaf => ⟨fun powered parked quiet => ?_, fun stays => ?_⟩,
      fun receives => ⟨fun fault => ?_, fun h parses => ⟨fun unnamed => ?_, fun role number own => ?_⟩⟩⟩
    · rw [deaf_next (by simp [State.receives, State.receptive, busy])]
      exact congrArg _ (State.postPasses_inAttempt s.begin busy)
    · rw [deaf_next deaf, State.postPasses_eq s.begin free, if_pos ⟨powered, parked, quiet⟩]
      rfl
    · rw [deaf_next deaf, State.postPasses_eq s.begin free, if_neg]
      · rfl
      · rintro ⟨powered, parked, quiet⟩
        rcases stays with off | elsewhere | active
        · exact Bool.eq_false_iff.1 off powered
        · exact elsewhere parked
        · exact active quiet
    · exact congrArg done (State.hearBytes_of_fault (s := s.begin) receives fault)
    · rw [exec_postReceived parses, State.hear_of_unnamed (s := s.begin) receives unnamed]
      rfl
    · rw [exec_postReceived parses, State.hear_of_own (s := s.begin) receives role number own]
      rfl
  · intro listed anyMask addressed lengths ignored
    refine exec_postReceived_ignored parses receives role named foreign ?_
    have listed_iff (k : Kind) : kindTakesRole k r = true ↔ listed k := by
      cases k <;> cases r <;> simp [kindTakesRole, listed]
    have anyMask_iff (k : Kind) : kindTakesAnyMask k = true ↔ anyMask k := by
      cases k <;> simp [kindTakesAnyMask, anyMask]
    have length_of (k : Kind) (n : Nat) (status : k ≠ .status) (alert : k ≠ .alert)
        (allowed : lengthAllowed k n = true) : n ∈ lengths k := by
      cases k <;> simp [lengthAllowed, lengths] at status alert allowed ⊢ <;> omega
    rcases ignored with unknown | ⟨k, kind, unlisted | ⟨one, other⟩ | ⟨status, alert, length⟩⟩
    · simp only [State.actOnPost, unknown, role]
    · refine State.actOnPost_of_ignored role kind (.inl ?_)
      exact Bool.eq_false_iff.2 fun takes => unlisted ((listed_iff k).1 takes)
    · refine State.actOnPost_of_ignored role kind (.inr (.inl ⟨?_, ?_⟩))
      · exact Bool.eq_false_iff.2 fun any => one ((anyMask_iff k).1 any)
      · exact Bool.eq_false_iff.2 fun mine => other (((s.heardFrom h.src r).addressedBy_iff h.mask).1 mine)
    · refine State.actOnPost_of_ignored role kind (.inr (.inr ?_))
      exact Bool.eq_false_iff.2 fun allowed => length (length_of k _ status alert allowed)
  · have number := takes.src_ne_zero
    obtain ⟨receives, -, foreign⟩ := takes
    have heard := State.hear_of_takesFrom s.begin src.toNat role (fun t => t) receives number foreign
    exact ⟨congrArg done heard, congrArg done heard⟩

end Sys2Proof.Machine
end

section
/-! # Claims weighed, and what a route entry records of them (R98 to R100, R111 to R113, R117) -/

namespace Sys2Proof.Machine

/-! ## The order of claims -/

/-- HELD before CLAIMING, then the higher quality, then the lower station number (R98). -/
theorem Claim.beats_iff (x y : Claim) : x.beats y = true ↔
    (x.hold = .held ∧ y.hold = .claiming) ∨ (x.hold = y.hold ∧ y.quality < x.quality) ∨
      (x.hold = y.hold ∧ x.quality = y.quality ∧ x.station < y.station) := by
  have alike (h : Hold) : ¬ (h = .held ∧ h = .claiming) := by
    rintro ⟨rfl, claiming⟩
    cases claiming
  unfold Claim.beats
  by_cases hold : x.hold = y.hold
  · simp only [hold, alike, ne_eq, not_true_eq_false, if_false, true_and, false_or]
    by_cases quality : x.quality = y.quality <;> simp [quality]
  · simp only [hold, ne_eq, not_false_eq_true, if_true, false_and, or_false, beq_iff_eq]
    refine ⟨fun held => ⟨held, ?_⟩, fun ⟨held, _⟩ => held⟩
    cases other : y.hold
    · rfl
    · exact absurd (held.trans other.symm) hold

/-- Equal claims do not beat each other. -/
theorem Claim.beats_irrefl (x : Claim) : x.beats x = false := by
  simp [Claim.beats]

theorem Claim.beats_trans {x y z : Claim} (xy : x.beats y = true) (yz : y.beats z = true) : x.beats z = true := by
  rw [Claim.beats_iff] at xy yz ⊢
  rcases xy with ⟨held, claiming⟩ | ⟨hold, quality⟩ | ⟨hold, quality, station⟩ <;>
    rcases yz with ⟨held', claiming'⟩ | ⟨hold', quality'⟩ | ⟨hold', quality', station'⟩
  · exact .inl ⟨held, claiming'⟩
  · exact .inl ⟨held, hold' ▸ claiming⟩
  · exact .inl ⟨held, hold' ▸ claiming⟩
  · exact .inl ⟨hold.trans held', claiming'⟩
  · exact .inr (.inl ⟨hold.trans hold', quality'.trans quality⟩)
  · exact .inr (.inl ⟨hold.trans hold', quality' ▸ quality⟩)
  · exact .inl ⟨hold.trans held', claiming'⟩
  · exact .inr (.inl ⟨hold.trans hold', quality ▸ quality'⟩)
  · exact .inr (.inr ⟨hold.trans hold', quality.trans quality', station.trans station'⟩)

/-- Of two claims from different stations one beats the other. -/
theorem Claim.beats_total {x y : Claim} (other : x.station ≠ y.station) : x.beats y = true ∨ y.beats x = true := by
  rw [Claim.beats_iff, Claim.beats_iff]
  cases x.hold <;> cases y.hold <;> simp <;> omega

theorem Claim.beats_iff_not_beaten {x y : Claim} (other : x.station ≠ y.station) :
    x.beats y = true ↔ y.beats x = false := by
  constructor
  · exact fun xy => Bool.eq_false_iff.2 fun yx => Bool.eq_false_iff.1 x.beats_irrefl (Claim.beats_trans xy yx)
  · intro beaten
    simpa [beaten] using Claim.beats_total other

/-- A claim of the station already named is not weighed, and only a CLAIMING one after a HELD one does not replace it
(R111). -/
theorem Claim.replaces_iff (c k : Claim) : c.replaces k = true ↔
    (k.station = c.station ∧ ¬ (c.hold = .claiming ∧ k.hold = .held)) ∨
      (k.station ≠ c.station ∧ c.beats k = true) := by
  unfold Claim.replaces
  by_cases same : c.station = k.station
  · cases hc : c.hold <;> cases hk : k.hold <;> simp [same]
  · simp [same, Ne.symm same]

/-! ## What a route entry records -/

theorem EntryState.afterCession_of_held {c : Claim} (held : c.hold = .held) (e : EntryState) :
    EntryState.afterCession c e = .readPeer c.station c.quality := by
  simp [EntryState.afterCession, held]

/-- Settles O29: the order is lexicographic, and each record of a claim is read off the entry's state. -/
theorem claimsAreWeighedAndRecorded : Obligations.ClaimsAreWeighedAndRecorded := by
  unfold Obligations.ClaimsAreWeighedAndRecorded
  refine ⟨⟨Claim.beats_iff, fun _ _ => Claim.beats_iff_not_beaten, Claim.beats_irrefl, fun _ _ _ => Claim.beats_trans⟩, ?_⟩
  intro c n q own
  refine ⟨EntryState.afterCession_of_held, fun claiming => ?_, fun held => ?_⟩
  · simp only [EntryState.afterCession, claiming, true_and]
    refine ⟨rfl, fun taken => ?_, fun other worse => ?_, rfl⟩
    · refine if_pos ((Claim.replaces_iff ..).2 ?_)
      by_cases same : own
      · exact .inl ⟨same.symm, by simp⟩
      · exact .inr ⟨Ne.symm same, taken.resolve_left same⟩
    · refine if_neg fun replaces => ?_
      rcases (Claim.replaces_iff ..).1 replaces with ⟨same, -⟩ | ⟨-, beats⟩
      · exact other same.symm
      · exact Bool.eq_false_iff.1 worse beats
  · exact ⟨rfl, rfl, fun same => if_pos same, fun other => if_neg other⟩

end Sys2Proof.Machine
end

section
/-! # A CLAIM received: what it does by the state of the meter's contact and of its entry (R110 to R117) -/

namespace Sys2Proof.Machine

/-! ## A post of another collector -/

/-- A CLAIM and a YIELD of another station are acted on from the state that has heard it (R85, R87, R96). -/
theorem State.hear_of_foreign {s : State} {src : BitVec 4} (takes : s.TakesFrom src) (act : State → State) :
    s.begin.hear src.toNat (some .collector) act = act (s.heardFrom src.toNat .collector) := by
  have number := takes.src_ne_zero
  obtain ⟨receives, -, foreign⟩ := takes
  exact State.hear_of_takesFrom s.begin src.toNat .collector act receives number foreign

theorem exec_claim_of_takesFrom {s : State} {src : BitVec 4} (takes : s.TakesFrom src) (m : MeterId)
    (quality : BitVec 6) (hold : Hold) : exec (.claim src m quality hold) s =
      .next ((s.heardFrom src.toNat .collector).placeClaim m
        { station := src.toNat, quality := quality.toNat, hold := hold }) :=
  congrArg Host.Outcome.next (State.hear_of_foreign takes _)

/-! ## Placing a claim -/

theorem State.placeClaim_ignored {s : State} {m : MeterId} (h : s.ret.routeState = .closing ∨ validMeter m = false)
    (c : Claim) : s.placeClaim m c = s := if_pos h

section

variable {s : State} {m : MeterId} {c : Claim} (route : s.ret.routeState ≠ .closing) (valid : validMeter m = true)
include route valid

theorem State.placeClaim_of_no_contact (absent : s.contactOf m = none) : s.placeClaim m c = s.claimAtEntry m c := by
  simp [State.placeClaim, route, valid, absent]

variable {x : Contact} (found : s.contactOf m = some x)
include found

theorem State.placeClaim_of_held {q : Nat} (held : x.state = .held q) :
    s.placeClaim m c = s.answerAsHolder m x.bestQuality c := by
  simp [State.placeClaim, route, valid, found, held]

theorem State.placeClaim_of_listening (listening : x.state = .listening) :
    s.placeClaim m c = s.claimAtListening x c := by
  simp [State.placeClaim, route, valid, found, listening]

theorem State.placeClaim_of_claiming (claiming : x.state = .claiming) :
    s.placeClaim m c = s.claimAtClaiming x c := by
  simp [State.placeClaim, route, valid, found, claiming]

theorem State.placeClaim_of_ceded {k : Claim} (ceded : x.state = .ceded k) :
    s.placeClaim m c = s.claimAtCeded x k c := by
  simp [State.placeClaim, route, valid, found, ceded]

end

/-! ## The entry of the meter -/

theorem State.entryReadHere_iff (s : State) (m : MeterId) : s.entryReadHere m = true ↔
    s.ret.routeState = .running ∧ ∃ e, s.ret.entryOf m = some e ∧ e.state = .readHere := by
  have found (e : RouteEntry) := s.ret.runningEntryOf_eq_some_iff m e
  unfold State.entryReadHere
  split
  · rename_i e here
    obtain ⟨running, entry⟩ := (found e).1 here
    simp [running, entry]
  · rename_i absent
    refine iff_of_false Bool.false_ne_true ?_
    rintro ⟨running, e, entry, -⟩
    simp [(found e).2 ⟨running, entry⟩] at absent

theorem Retained.runningEntryOf_eq_none {r : Retained} {m : MeterId}
    (h : r.routeState ≠ .running ∨ r.entryOf m = none) : r.runningEntryOf m = none := by
  refine Option.eq_none_iff_forall_ne_some.2 fun e found => ?_
  obtain ⟨running, entry⟩ := (r.runningEntryOf_eq_some_iff m e).1 found
  rcases h with stopped | absent
  · exact stopped running
  · simp [absent] at entry

/-! ## A LISTENING, a CLAIMING and a CEDED contact -/

section

variable {s : State} {x : Contact} {c : Claim}

theorem State.claimAtListening_here (here : s.entryReadHere x.meter = true) :
    s.claimAtListening x c = s.answerAsHolder x.meter x.bestQuality c := if_pos here

theorem State.claimAtListening_cedes (elsewhere : ¬ s.entryReadHere x.meter = true)
    (better : c.hold = .held ∨ c.beats (s.ownClaim x) = true) : s.claimAtListening x c = s.cede x c :=
  (if_neg elsewhere).trans (if_pos better)

theorem State.claimAtListening_stays (elsewhere : ¬ s.entryReadHere x.meter = true)
    (worse : ¬ (c.hold = .held ∨ c.beats (s.ownClaim x) = true)) :
    s.claimAtListening x c = s.changeEntryState x.meter (EntryState.noteClaiming c) :=
  (if_neg elsewhere).trans (if_neg worse)

theorem State.claimAtClaiming_cedes (better : c.hold = .held ∨ c.beats (s.ownClaim x) = true) :
    s.claimAtClaiming x c = (s.cede x c).finishIdle x.meter := if_pos better

theorem State.claimAtClaiming_stays (worse : ¬ (c.hold = .held ∨ c.beats (s.ownClaim x) = true)) :
    s.claimAtClaiming x c = (s.offer (claimPost x.meter x.bestQuality .claiming)).changeEntryState x.meter
      (EntryState.noteClaiming c) := if_neg worse

/-- A contact that cedes is found CEDED: its entry's change leaves the table. -/
theorem State.contactOf_cede (found : s.contactOf x.meter = some x) :
    (s.cede x c).contactOf x.meter = some { x with state := .ceded c, settle := none } :=
  (State.contactOf_congr (State.changeEntryState_sameHolding _ _ _).contacts _).trans
    (State.contactOf_setContact (c := { x with state := .ceded c, settle := none }) found)

end

/-- Settles O30: the contact's state and the order of the claims pick the branch; a CLAIMING contact whose idle expiry
was deferred is found again, CEDED, and removed. -/
theorem claimMovesContactsThatDoNotHold : Obligations.ClaimMovesContactsThatDoNotHold := by
  unfold Obligations.ClaimMovesContactsThatDoNotHold
  refine ⟨fun src m quality hold s x takes route valid found notHere => ?_,
    fun src m quality hold s x k takes route valid found ceded => ?_⟩
  · intro u c own ceded note
    have placed : exec (.claim src m quality hold) s = .next (u.placeClaim m c) :=
      exec_claim_of_takesFrom takes m quality hold
    obtain ⟨-, rfl⟩ := State.contactOf_some found
    have elsewhere : ¬ u.entryReadHere x.meter = true := fun here => by
      obtain ⟨running, e, entry, readHere⟩ := (u.entryReadHere_iff x.meter).1 here
      exact notHere running e (List.mem_of_find?_eq_some entry) (by simpa using List.find?_some entry) readHere
    have worse (claiming : hold = .claiming) (beaten : c.beats own = false) : ¬ (hold = .held ∨ c.beats own = true) := by
      simp [claiming, beaten]
    refine ⟨fun listening => ?_, fun claiming => ?_⟩
    · rw [placed, State.placeClaim_of_listening (s := u) route valid found listening]
      exact ⟨fun better => congrArg _ (State.claimAtListening_cedes elsewhere better),
        fun h beaten => congrArg _ (State.claimAtListening_stays elsewhere (worse h beaten))⟩
    · rw [placed, State.placeClaim_of_claiming (s := u) route valid found claiming]
      refine ⟨fun better => ?_, fun h beaten => congrArg _ (State.claimAtClaiming_stays (worse h beaten))⟩
      have found' : ceded.contactOf x.meter = some { x with state := .ceded c, settle := none } :=
        State.contactOf_cede (s := u) found
      rw [State.claimAtClaiming_cedes (s := u) better]
      refine ⟨fun settled => congrArg _ (State.finishIdle_stays found' settled), fun deferred => congrArg _ ?_⟩
      exact (State.finishIdle_removes found' deferred).trans (State.removeContact_of_isCeded found' rfl)
  · intro u c replaced
    have placed : exec (.claim src m quality hold) s = .next (u.claimAtCeded x k c) :=
      (exec_claim_of_takesFrom takes m quality hold).trans
        (congrArg _ (State.placeClaim_of_ceded (s := u) route valid found ceded))
    obtain ⟨-, rfl⟩ := State.contactOf_some found
    have weighed : c.replaces k = true ↔ replaced := Claim.replaces_iff c k
    rw [placed]
    exact ⟨fun h => congrArg _ (if_pos (weighed.2 h)), fun h => congrArg _ (if_neg (mt weighed.1 h))⟩

end Sys2Proof.Machine
end

section
/-! # A CLAIM for a meter held here, or without a contact (R110, R114, R115, R117) -/

namespace Sys2Proof.Machine

/-! ## DOUBLE on the newest READ record -/

theorem Retained.newestReadOf_eq_none {r : Retained} {m : MeterId} (h : ∀ y ∈ r.log, y.isReadOf m = false) :
    r.newestReadOf m = none := by
  have unread : r.log.filter (Record.isReadOf m) = [] := List.filter_eq_nil_iff.2 fun y hy => by simp [h y hy]
  simp [Retained.newestReadOf, unread]

section

variable {r : Retained} {older newer : List Record} {y : Record} (log : r.log = older ++ y :: newer)
include log

theorem Retained.newestReadOf_eq {m : MeterId} (read : y.isReadOf m = true) (last : ∀ z ∈ newer, z.isReadOf m = false) :
    r.newestReadOf m = some y.seq := by
  have unread : newer.filter (Record.isReadOf m) = [] := List.filter_eq_nil_iff.2 fun z hz => by simp [last z hz]
  simp [Retained.newestReadOf, log, List.filter_append, List.filter_cons_of_pos read, unread]

/-- In a log in order, the update of a record reaches no other (R150). -/
theorem Retained.LogInOrder.updRecord_log (order : r.LogInOrder) (f : Record → Record) :
    (r.updRecord y.seq f).log = older ++ f y :: newer := by
  obtain ⟨rising, -⟩ := order
  rw [log, List.map_append, List.map_cons, List.pairwise_append, List.pairwise_cons] at rising
  obtain ⟨-, ⟨above, -⟩, below⟩ := rising
  have other {l : List Record} (h : ∀ x ∈ l, x.seq ≠ y.seq) : l.map (fun x => if x.seq = y.seq then f x else x) = l :=
    (List.map_congr_left fun x hx => if_neg (h x hx)).trans (List.map_id' l)
  simp only [Retained.updRecord, log, List.map_append, List.map_cons, if_true]
  rw [other fun x hx => (below _ (List.mem_map_of_mem hx) _ (List.mem_cons_self ..)).ne,
    other fun x hx => (above _ (List.mem_map_of_mem hx)).ne']

end

/-- The mark of R115 touches one record at most, and DOUBLE of the meter's entry in RUNNING. -/
theorem Retained.markDouble_eq (r : Retained) (m : MeterId) : r.markDouble m = { r with
    log := ((r.newestReadOf m).elim r fun q => r.updRecord q Record.markDouble).log
    entries :=
      if r.routeState = .running then
        r.entries.map fun e => if e.meter = m then { e with double := true } else e
      else r.entries } := by
  unfold Retained.markDouble
  rw [Retained.updRunningEntry_frame, Retained.updRunningEntry_entries]
  cases r.newestReadOf m <;> rfl

/-- The mark of R115 in the log. -/
theorem Retained.markDouble_log_of_unread {r : Retained} {m : MeterId} (h : ∀ y ∈ r.log, y.isReadOf m = false) :
    (r.markDouble m).log = r.log := by
  rw [Retained.markDouble_eq, Retained.newestReadOf_eq_none h]
  rfl

theorem Retained.LogInOrder.markDouble_log {r : Retained} (order : r.LogInOrder) {older newer : List Record} {y : Record}
    {f : ReadFields} (log : r.log = older ++ y :: newer) (body : y.body = .read f)
    (last : ∀ z ∈ newer, z.isReadOf f.meter = false) :
    (r.markDouble f.meter).log =
      older ++ { y with body := .read { f with marks := { f.marks with double := true } } } :: newer := by
  have read : y.isReadOf f.meter = true := by simp [Record.isReadOf, body]
  have marked : y.markDouble = { y with body := .read { f with marks := { f.marks with double := true } } } := by
    simp [Record.markDouble, body]
  rw [Retained.markDouble_eq, Retained.newestReadOf_eq log read last, ← marked]
  exact order.updRecord_log log Record.markDouble

/-! ## A meter without a contact -/

section

variable {s : State} {m : MeterId} {c : Claim}

theorem State.claimAtEntry_unlisted (h : s.ret.runningEntryOf m = none) : s.claimAtEntry m c = s := by
  simp [State.claimAtEntry, h]

variable {e : RouteEntry} (listed : s.ret.runningEntryOf m = some e)
include listed

theorem State.claimAtEntry_here (here : e.state = .readHere) : s.claimAtEntry m c = s.answerAsHolder m 0 c := by
  simp [State.claimAtEntry, listed, here]

theorem State.claimAtEntry_elsewhere (elsewhere : e.state ≠ .readHere) :
    s.claimAtEntry m c = s.write fun r => r.updEntry m fun e =>
      { e with state := if c.hold = .held then .noteHeld c e.state else .noteClaiming c e.state } := by
  cases hold : c.hold <;>
    simp [State.claimAtEntry, State.changeEntryState, State.changeEntry, listed, elsewhere, hold]

end

/-- Settles O31: holder or entry, one operation answers; R115's mark finds the newest READ record alone. -/
theorem claimIsAnsweredByHolderOrEntry : Obligations.ClaimIsAnsweredByHolderOrEntry := by
  unfold Obligations.ClaimIsAnsweredByHolderOrEntry
  refine ⟨fun src m quality s best takes route valid holds => ?_, fun src m quality hold s takes => ?_⟩
  · intro u
    have answered (hold : Hold) : exec (.claim src m quality hold) s = .next (u.answerAsHolder m best
        { station := src.toNat, quality := quality.toNat, hold := hold }) := by
      rw [exec_claim_of_takesFrom takes]
      refine congrArg _ ?_
      rcases holds with ⟨x, q, found, held, rfl⟩ | ⟨⟨absent, rfl⟩ | ⟨x, found, listening, rfl⟩, running, e, entry, here⟩
      · exact State.placeClaim_of_held (s := u) route valid found held
      · exact (State.placeClaim_of_no_contact (s := u) route valid absent).trans
          (State.claimAtEntry_here ((u.ret.runningEntryOf_eq_some_iff m e).2 ⟨running, entry⟩) here)
      · have placed := State.placeClaim_of_listening (s := u) (c := ⟨src.toNat, quality.toNat, hold⟩) route valid found
          listening
        obtain ⟨-, rfl⟩ := State.contactOf_some found
        exact placed.trans (State.claimAtListening_here ((u.entryReadHere_iff x.meter).2 ⟨running, e, entry, here⟩))
    refine ⟨answered .claiming, u.write (Retained.markDouble m), answered .held, rfl, ?_, ?_, ?_, ?_, ?_⟩
    · exact congrArg Retained.entries (u.ret.markDouble_eq m)
    · exact (congrArg Retained.nextSeq (u.ret.markDouble_eq m)).trans rfl
    · exact (congrArg Retained.routeState (u.ret.markDouble_eq m)).trans rfl
    · exact Retained.markDouble_log_of_unread (r := u.ret)
    · rintro older y newer f order log body rfl last
      exact Retained.LogInOrder.markDouble_log (r := u.ret) order log body last
  · intro u c
    have placed : exec (.claim src m quality hold) s = .next (u.placeClaim m c) :=
      exec_claim_of_takesFrom takes m quality hold
    have at_entry (route : s.ret.routeState ≠ .closing) (valid : validMeter m = true) (absent : s.contactOf m = none) :
        u.placeClaim m c = u.claimAtEntry m c :=
      State.placeClaim_of_no_contact (s := u) route valid absent
    refine ⟨fun e running valid absent entry elsewhere => ?_, fun without => ?_⟩
    · rw [placed, at_entry (by simp [running]) valid absent,
        State.claimAtEntry_elsewhere ((u.ret.runningEntryOf_eq_some_iff m e).2 ⟨running, entry⟩) elsewhere]
      rfl
    · refine placed.trans (congrArg _ ?_)
      by_cases ignored : s.ret.routeState = .closing ∨ validMeter m = false
      · exact State.placeClaim_ignored (s := u) ignored c
      · obtain ⟨absent, unlisted⟩ := without.resolve_right ignored
        obtain ⟨route, valid⟩ := not_or.1 ignored
        rw [at_entry route (by simpa using valid) absent]
        exact State.claimAtEntry_unlisted (Retained.runningEntryOf_eq_none (r := u.ret) unlisted)

end Sys2Proof.Machine
end

section
/-! # Claims given up: a YIELD, and the silence of a peer (R97, R118, R119) -/

namespace Sys2Proof.Machine

/-! ## A YIELD -/

theorem exec_yield_of_takesFrom {s : State} {src : BitVec 4} (takes : s.TakesFrom src) (m : MeterId) :
    exec (.yield src m) s = .next ((s.heardFrom src.toNat .collector).placeYield m src.toNat) :=
  congrArg Host.Outcome.next (State.hear_of_foreign takes _)

theorem Contact.cededToClaiming_of_ceded {x : Contact} {k : Claim} (n : Nat) (ceded : x.state = .ceded k) :
    x.cededToClaiming n = true ↔ k.station = n ∧ k.hold = .claiming := by
  simp [Contact.cededToClaiming, ceded]

theorem State.placeYield_ignored {s : State} {m : MeterId} (h : s.ret.routeState = .closing ∨ validMeter m = false)
    (n : Nat) : s.placeYield m n = s := if_pos h

section

variable {s : State} {m : MeterId} {n : Nat} (route : s.ret.routeState ≠ .closing) (valid : validMeter m = true)
include route valid

theorem State.placeYield_of_no_contact (absent : s.contactOf m = none) :
    s.placeYield m n = s.changeEntryState m (EntryState.revert n) := by
  simp [State.placeYield, route, valid, absent, yieldReachesEntry]

variable {x : Contact} (found : s.contactOf m = some x)
include found

theorem State.placeYield_of_unheld (unheld : x.state = .listening ∨ x.state = .claiming) :
    s.placeYield m n = s.changeEntryState m (EntryState.revert n) := by
  rcases unheld with state | state <;>
    simp [State.placeYield, route, valid, found, yieldReachesEntry, Contact.cededToClaiming, state]

theorem State.placeYield_of_held {q : Nat} (held : x.state = .held q) : s.placeYield m n = s := by
  simp [State.placeYield, route, valid, found, yieldReachesEntry, Contact.cededToClaiming, held]

variable {k : Claim} (ceded : x.state = .ceded k)
include ceded

theorem State.placeYield_releases (given : k.station = n ∧ k.hold = .claiming) :
    s.placeYield m n = (s.setContact x.release).changeEntryState m (EntryState.revert n) := by
  have released := (Contact.cededToClaiming_of_ceded n ceded).2 given
  simp [State.placeYield, route, valid, found, yieldReachesEntry, ceded, released]

theorem State.placeYield_of_kept (kept : ¬ (k.station = n ∧ k.hold = .claiming)) : s.placeYield m n = s := by
  have stays := Bool.eq_false_iff.2 (mt (Contact.cededToClaiming_of_ceded n ceded).1 kept)
  simp [State.placeYield, route, valid, found, yieldReachesEntry, ceded, stays]

end

/-! ## The silence of a peer -/

/-- The silence timer is that of the one entry of the peer's number (R95). -/
theorem State.silenceTimer_eq {s : State} {before after : List Peer} {p : Peer}
    (peers : s.main.peers = before ++ p :: after) (first : ∀ x ∈ before, x.station ≠ p.station) :
    s.silenceTimer p.station = p.silence := by
  have found : (s.main.peers.find? fun x => x.station == p.station) = some p := by
    rw [peers, List.find?_append, List.find?_eq_none.2 (by simpa using first)]
    simp
  simp [State.silenceTimer, found]

/-- The peer found goes SILENT and keeps its ROLE, and on the others' timers the time has passed (R97). -/
theorem State.silencePeer_passTime {s : State} {before after : List Peer} {p : Peer} (powered : s.powered = true)
    (peers : s.main.peers = before ++ p :: after) (first : ∀ x ∈ before, x.station ≠ p.station)
    (only : ∀ x ∈ after, x.station ≠ p.station) (left : Nat) :
    (s.passTime left).silencePeer p.station =
      { s.passTime left with main := { (s.passTime left).main with
          peers := before.map (Peer.passTime · left) ++
            { p with presence := .silent, silence := none } :: after.map (Peer.passTime · left) } } := by
  have passed : (s.passTime left).main.peers = (before ++ p :: after).map (Peer.passTime · left) := by
    rw [State.passTime_main, if_pos powered, ← peers]
    rfl
  have others {l : List Peer} (h : ∀ x ∈ l, x.station ≠ p.station) :
      (l.map (Peer.passTime · left)).map (fun x =>
        if x.station = p.station then { x with presence := .silent, silence := none } else x) =
        l.map (Peer.passTime · left) := by
    rw [List.map_map]
    exact List.map_congr_left fun x hx => if_neg (h x hx)
  simp only [State.silencePeer, passed, List.map_append, List.map_cons, others first, others only]
  simp [Peer.passTime]

theorem State.passTime_routeState (s : State) (n : Nat) : (s.passTime n).ret.routeState = s.ret.routeState := by
  rw [State.passTime_ret, Retained.passTime]
  split
  · split <;> rfl
  · rfl

/-- PEER-CLAIMING of the station becomes DUE, and every other entry stays (R118, R119). -/
theorem RouteEntry.revert_eq (n : Nat) (e : RouteEntry) :
    { e with state := EntryState.revert n e.state } =
      match e.state with
      | .peerClaiming k _ => if k = n then { e with state := .due } else e
      | _ => e := by
  obtain ⟨_, _, _, _, _, _, _, _, _, _, state, _, _, _⟩ := e
  cases state with
  | peerClaiming k q =>
    simp only [EntryState.revert]
    split <;> rfl
  | _ => rfl

/-- Settles O32: the contact's state says what a YIELD reaches; the silence of a peer acts on its one entry in the peer
table, on the contacts it ceded and, in RUNNING, on the entries. -/
theorem yieldAndSilenceReleaseClaims : Obligations.YieldAndSilenceReleaseClaims := by
  unfold Obligations.YieldAndSilenceReleaseClaims
  refine ⟨fun src m s takes valid => ?_, fun src m s takes invalid => ?_,
    fun n s left before after p powered peers station first only running => ?_⟩
  · intro u revert
    rw [exec_yield_of_takesFrom takes]
    refine ⟨fun closing => congrArg _ (State.placeYield_ignored (s := u) (.inl closing) _), fun route => ?_⟩
    refine ⟨fun x q found ceded => congrArg _ ?_, fun x k found ceded other => congrArg _ ?_,
      fun x q found held => congrArg _ ?_, fun free => congrArg _ ?_⟩
    · exact State.placeYield_releases (s := u) route valid found ceded ⟨rfl, rfl⟩
    · refine State.placeYield_of_kept (s := u) route valid found ceded fun ⟨sender, claiming⟩ => ?_
      rcases other with foreign | held
      · exact foreign sender
      · simp [held] at claiming
    · exact State.placeYield_of_held (s := u) route valid found held
    · rcases free with absent | ⟨x, found, unheld⟩
      · exact State.placeYield_of_no_contact (s := u) route valid absent
      · exact State.placeYield_of_unheld (s := u) route valid found unheld
  · have unnamed : validMeter m = false := by
      rcases invalid with rfl | rfl <;> rfl
    rw [exec_yield_of_takesFrom takes]
    exact congrArg _ (State.placeYield_ignored (s := s.heardFrom src.toNat .collector) (.inr unnamed) _)
  · intro u main
    rw [← station] at first only
    have timer : s.begin.silenceTimer n.toNat = some left := by
      rw [← station, State.silenceTimer_eq (s := s.begin) peers first, running]
    have silenced := State.silencePeer_passTime (s := s.begin) powered peers first only left
    have expired : exec (.silence n) s = .next ((u.silencePeer p.station).revertPeer n.toNat) := by
      simp only [exec, execSilence, done, State.silenceExpired, timer, station, u]
    have route : u.ret.routeState = s.ret.routeState := s.begin.passTime_routeState left
    rw [expired, silenced]
    refine ⟨fun stopped => congrArg _ (if_neg (route ▸ stopped)), fun runs => congrArg _ ?_⟩
    refine (if_pos (route.trans runs)).trans ?_
    simp only [State.write, RouteEntry.revert_eq]
    rfl

end Sys2Proof.Machine
end

section
/-! # The route table: its entries by index, the tests of a ROUTE-ENTRY, and what an entry meets (R123, R129 to R132) -/

namespace Sys2Proof.Machine

/-! ## Entries by index -/

/-- A search that passes an element over finds what it found before that element was put in. -/
theorem find?_insertBy_of_not {α : Type} (key : α → Nat) (p : α → Bool) (x : α) (l : List α) (hx : p x = false) :
    (insertBy key x l).find? p = l.find? p := by
  induction l with
  | nil => simp [insertBy, hx]
  | cons y ys ih =>
    unfold insertBy
    split
    · simp [hx]
    · simp only [List.find?_cons, ih]

theorem Retained.entryAt_eq_none_iff (r : Retained) (i : Nat) :
    r.entryAt i = none ↔ ∀ e ∈ r.entries, e.index ≠ i := by
  simp [Retained.entryAt]

theorem Retained.entryAt_some {r : Retained} {i : Nat} {e : RouteEntry} (h : r.entryAt i = some e) :
    e ∈ r.entries ∧ e.index = i :=
  ⟨List.mem_of_find?_eq_some h, by simpa using List.find?_some h⟩

theorem Retained.entryAt_storeEntry_same (r : Retained) (e : RouteEntry) :
    (r.storeEntry e).entryAt e.index = some e :=
  find?_insertBy _ _ e _ (by simp) fun x hx => by simpa using (List.mem_filter.1 hx).2

theorem Retained.entryAt_storeEntry_other (r : Retained) (e : RouteEntry) {i : Nat} (h : i ≠ e.index) :
    (r.storeEntry e).entryAt i = r.entryAt i := by
  have passed : (e.index == i) = false := by simpa using h.symm
  refine (find?_insertBy_of_not _ _ e _ passed).trans ?_
  rw [List.find?_filter]
  refine congrArg (fun p => r.entries.find? p) (funext fun x => ?_)
  by_cases at_i : x.index = i <;> simp [at_i, h]

/-! ## The tests of a ROUTE-ENTRY -/

/-- Entries are taken in this route state (R129, test 1). -/
def Retained.TakesEntries (r : Retained) : Prop := r.routeState = .loading ∨ r.routeState = .running

/-- The entry passes tests 2 to 5 of R129. -/
def Retained.Fits (r : Retained) (f : EntryFields) : Prop :=
  f.index.toNat < r.clampedCount ∧ f.meter ≠ 0#32 ∧ f.meter ≠ 0xFFFFFFFF#32 ∧
    4 ≤ f.dr.toNat ∧ f.dr.toNat ≤ 8 ∧ f.p.toNat < 10 ^ f.dr.toNat ∧
    (r.routeState = .running → ∀ e ∈ r.entries, e.index ≠ f.index.toNat)

/-- The entry's meter stands at another index (R129, test 6). -/
def Retained.StandsElsewhere (r : Retained) (f : EntryFields) : Prop :=
  ∃ e ∈ r.entries, e.meter = f.meter ∧ e.index ≠ f.index.toNat

/-- What the six tests of R129 can come to. -/
theorem Retained.judgeEntry_cases (r : Retained) (f : EntryFields) :
    (¬ (r.TakesEntries ∧ r.Fits f) ∧ r.judgeEntry f = .refused) ∨
      ((r.TakesEntries ∧ r.Fits f) ∧
        ((r.StandsElsewhere f ∧ r.judgeEntry f = .duplicate) ∨ (¬ r.StandsElsewhere f ∧ r.judgeEntry f = .stored))) := by
  unfold Retained.judgeEntry
  split
  · rename_i other
    exact .inl ⟨fun ⟨takes, _⟩ => takes.elim other.1 other.2, rfl⟩
  rename_i takes
  split
  · rename_i beyond
    exact .inl ⟨fun ⟨_, below, _⟩ => absurd below (Nat.not_lt.2 beyond), rfl⟩
  rename_i below
  split
  · rename_i invalid
    exact .inl ⟨fun ⟨_, _, m0, m1, _⟩ => Bool.eq_false_iff.1 invalid ((validMeter_iff _).2 ⟨m0, m1⟩), rfl⟩
  rename_i valid
  split
  · rename_i range
    exact .inl ⟨fun ⟨_, _, _, _, low, high, fits, _⟩ => by omega, rfl⟩
  rename_i range
  split
  · rename_i filled
    obtain ⟨running, filled⟩ := filled
    refine .inl ⟨fun ⟨_, _, _, _, _, _, _, free⟩ => ?_, rfl⟩
    rw [(r.entryAt_eq_none_iff _).2 (free running)] at filled
    cases filled
  rename_i free
  have fits : r.Fits f := by
    obtain ⟨m0, m1⟩ := (validMeter_iff f.meter).1 (Bool.not_eq_false _ ▸ valid)
    refine ⟨Nat.not_le.1 below, m0, m1, by omega, by omega, by omega, fun running => ?_⟩
    rw [← Retained.entryAt_eq_none_iff, ← Option.not_isSome_iff_eq_none]
    exact fun filled => free ⟨running, filled⟩
  have taken : r.TakesEntries := by
    by_contra closed
    exact takes ⟨fun h => closed (.inl h), fun h => closed (.inr h)⟩
  refine .inr ⟨⟨taken, fits⟩, ?_⟩
  have elsewhere : r.entries.any (fun e => e.meter == f.meter && e.index != f.index.toNat) = true ↔
      r.StandsElsewhere f := by simp [Retained.StandsElsewhere]
  split
  · exact .inl ⟨elsewhere.1 ‹_›, rfl⟩
  · exact .inr ⟨fun h => absurd (elsewhere.2 h) ‹_›, rfl⟩

/-! ## An entry that meets a contact -/

/-- Meeting its contact moves STATE, Z and FINDINGS of an entry (R132). -/
theorem RouteEntry.meet_eq (r : Retained) (c : Contact) (e : RouteEntry) :
    e.meet r c = { e with
      state := (e.meet r c).state, z := (e.meet r c).z, findings := (e.meet r c).findings } := by
  unfold RouteEntry.meet
  split
  · split <;> rfl
  · split <;> rfl
  · rfl
  · rfl

theorem meetAmong_eq (r : Retained) (cs : List Contact) (e : RouteEntry) :
    meetAmong r cs e = { e with
      state := (meetAmong r cs e).state, z := (meetAmong r cs e).z, findings := (meetAmong r cs e).findings } := by
  unfold meetAmong
  split
  · exact e.meet_eq r _
  · rfl

theorem RouteEntry.isMissed_eq_false_iff (e : RouteEntry) : e.isMissed = false ↔ ∀ c, e.state ≠ .missed c := by
  unfold RouteEntry.isMissed
  split <;> simp_all

/-- No contact makes an entry MISSED. -/
theorem meetAmong_isMissed (r : Retained) (cs : List Contact) {e : RouteEntry} (h : e.isMissed = false) :
    (meetAmong r cs e).isMissed = false := by
  unfold meetAmong RouteEntry.meet
  split
  · split
    · split <;> rfl
    · split <;> rfl
    · exact h
    · exact h
  · exact h

section

variable {cs : List Contact} {e : RouteEntry} {c : Contact} (r : Retained)

theorem meetAmong_of_no_contact (h : ∀ c ∈ cs, c.meter ≠ e.meter) : meetAmong r cs e = e := by
  have absent : cs.find? (fun c => c.meter == e.meter) = none := by simpa using h
  rw [meetAmong, absent]

theorem meetAmong_of_unsettled (found : cs.find? (fun x => x.meter == e.meter) = some c)
    (h : c.state = .listening ∨ c.state = .claiming) : meetAmong r cs e = e := by
  rcases h with h | h <;> simp only [meetAmong, found, RouteEntry.meet, h]

theorem meetAmong_of_ceded {k : Claim} (found : cs.find? (fun x => x.meter == e.meter) = some c)
    (h : c.state = .ceded k) : meetAmong r cs e = { e with
      state := if k.hold = .held then .readPeer k.station k.quality else .peerClaiming k.station k.quality } := by
  cases hold : k.hold <;> simp [meetAmong, found, RouteEntry.meet, h, hold]

theorem meetAmong_of_held {q : Nat} {x : Record} {f : ReadFields}
    (found : cs.find? (fun x => x.meter == e.meter) = some c) (h : c.state = .held q)
    (record : r.recordOf q = some x) (body : x.body = .read f) :
    meetAmong r cs e = { e with state := .readHere, z := some f.reading, findings := f.findings } := by
  have fields : (r.recordOf q).bind Record.readFields = some f := by
    rw [record]
    exact Record.mem_readFields.2 body
  simp only [meetAmong, found, RouteEntry.meet, h, fields]

end

/-! ## What becomes of an entry of a ROUTE-ENTRY -/

section

variable {s : State} {f : EntryFields}

theorem State.takeEntry_refused (h : ¬ (s.ret.TakesEntries ∧ s.ret.Fits f)) : s.takeEntry f = s := by
  rcases s.ret.judgeEntry_cases f with ⟨-, e⟩ | ⟨taken, -⟩
  · simp only [State.takeEntry, e]
  · exact absurd taken h

theorem State.takeEntry_duplicate (taken : s.ret.TakesEntries) (fits : s.ret.Fits f) (h : s.ret.StandsElsewhere f) :
    s.takeEntry f = { s with main := { s.main with routeDup := s.main.routeDup + 1 } } := by
  rcases s.ret.judgeEntry_cases f with ⟨refused, -⟩ | ⟨-, ⟨-, e⟩ | ⟨single, -⟩⟩
  · exact absurd ⟨taken, fits⟩ refused
  · simp only [State.takeEntry, e]
  · exact absurd h single

theorem State.takeEntry_stored (taken : s.ret.TakesEntries) (fits : s.ret.Fits f) (h : ¬ s.ret.StandsElsewhere f) :
    s.takeEntry f = s.write fun r => r.storeEntry (s.entryToStore f) := by
  rcases s.ret.judgeEntry_cases f with ⟨refused, -⟩ | ⟨-, ⟨double, -⟩ | ⟨-, e⟩⟩
  · exact absurd ⟨taken, fits⟩ refused
  · exact absurd double h
  · simp only [State.takeEntry, e]

end

/-- The static fields of an entry are stored as the post carries them, and without DOUBLE, in LOADING and in
RUNNING (R130, R131). -/
theorem State.entryToStore_eq (s : State) (f : EntryFields) :
    s.entryToStore f = { storedEntry f with
      state := (s.entryToStore f).state, z := (s.entryToStore f).z, findings := (s.entryToStore f).findings } := by
  unfold State.entryToStore
  split
  · exact meetAmong_eq _ _ _
  · rfl

theorem State.entryToStore_running {s : State} (f : EntryFields) (h : s.ret.routeState = .running) :
    s.entryToStore f = meetAmong s.ret s.main.contacts (storedEntry f) := if_pos h

theorem State.entryToStore_loading {s : State} (f : EntryFields) (h : s.ret.routeState = .loading) :
    s.entryToStore f = storedEntry f := if_neg (by simp [h])

end Sys2Proof.Machine
end

section
/-! # The close walk: the rules of its steps and of its end (R138 to R142, R155) -/

namespace Sys2Proof.Machine

/-! ## What the walk asks of an entry -/

/-- The walk misses an entry that is DUE or PEER-CLAIMING (R138). -/
theorem RouteEntry.countsDue_iff (e : RouteEntry) :
    e.countsDue = true ↔ e.state = .due ∨ ∃ n q, e.state = .peerClaiming n q := by
  unfold RouteEntry.countsDue
  cases e.state <;> simp

/-- The walk passes over an entry that is READ-HERE, READ-PEER or MISSED (R138). -/
theorem RouteEntry.countsDue_eq_false_iff (e : RouteEntry) :
    e.countsDue = false ↔ e.state = .readHere ∨ e.isReadPeer = true ∨ e.isMissed = true := by
  unfold RouteEntry.countsDue RouteEntry.isReadPeer RouteEntry.isMissed
  cases e.state <;> simp

theorem State.responsible_of_hint (s : State) {e : RouteEntry} {h : Nat} (hint : e.hint = some h) :
    s.responsible e = true ↔ h = s.main.cfg.sector := by
  simp only [State.responsible, hint, beq_iff_eq]

theorem State.responsible_of_no_hint (s : State) {e : RouteEntry} (hint : e.hint = none) :
    s.responsible e = true ↔ ∀ p ∈ s.main.peers, p.presence = .present → p.role = some .collector →
      s.ownNumber < p.station := by
  simp only [State.responsible, hint, List.all_eq_true, Bool.or_eq_true, Bool.not_eq_true', Bool.and_eq_false_iff,
    beq_eq_false_iff_ne, decide_eq_true_eq]
  simp only [ne_eq, imp_iff_not_or, or_assoc]

/-! ## The step at an index -/

section

variable {s : State} {i : Nat} {e : RouteEntry}

theorem State.visitIndex_empty (h : s.ret.entryAt i = none) : s.visitIndex i = s := by
  simp only [State.visitIndex, h]

theorem State.visitIndex_passed (h : s.ret.entryAt i = some e) (done : e.countsDue = false) : s.visitIndex i = s := by
  simp only [State.visitIndex, h, done]
  rfl

theorem State.visitIndex_due (h : s.ret.entryAt i = some e) (due : e.countsDue = true) :
    s.visitIndex i = s.write fun r => if s.responsible e then r.missHere e else r.missAt i := by
  simp only [State.visitIndex, h, due]
  cases s.responsible e <;> rfl

/-- Another station's entry is missed without a record and without a tally (R141). -/
theorem State.visitIndex_elsewhere (h : s.ret.entryAt i = some e) (due : e.countsDue = true)
    (other : s.responsible e = false) : s.visitIndex i = s.write (Retained.missAt i) := by
  simp only [State.visitIndex_due h due, other]
  rfl

/-- An own entry is missed with a MISSED record where there is room (R140). -/
theorem State.visitIndex_listed (h : s.ret.entryAt i = some e) (due : e.countsDue = true)
    (ours : s.responsible e = true) (room : s.ret.room = true) :
    s.visitIndex i = s.write fun r => ({ r.append r.routeNumber .closed
      (.missed { meter := e.meter, dials := e.dr, prior := e.p, resets := e.kr }) with
        listed := r.listed + 1 } : Retained).missAt i := by
  obtain ⟨-, rfl⟩ := Retained.entryAt_some h
  simp only [State.visitIndex_due h due, ours, State.write, Retained.missHere, room]
  rfl

/-- An own entry is missed without a record where there is no room (R140). -/
theorem State.visitIndex_unlisted (h : s.ret.entryAt i = some e) (due : e.countsDue = true)
    (ours : s.responsible e = true) (full : s.ret.room = false) :
    s.visitIndex i = s.write fun r => ({ r with unlisted := r.unlisted + 1 } : Retained).missAt i := by
  obtain ⟨-, rfl⟩ := Retained.entryAt_some h
  simp only [State.visitIndex_due h due, ours, State.write, Retained.missHere, full]
  rfl

end

/-- The visit of an index leaves the main domain and the clamped entry count. -/
theorem State.visitIndex_frame (s : State) (i : Nat) :
    (s.visitIndex i).main = s.main ∧ (s.visitIndex i).ret.clampedCount = s.ret.clampedCount := by
  cases found : s.ret.entryAt i with
  | none =>
    rw [State.visitIndex_empty found]
    exact ⟨rfl, rfl⟩
  | some e =>
    cases due : e.countsDue with
    | false =>
      rw [State.visitIndex_passed found due]
      exact ⟨rfl, rfl⟩
    | true =>
      rw [State.visitIndex_due found due]
      refine ⟨rfl, ?_⟩
      simp only [State.write_ret, Retained.missHere]
      split
      · split <;> rfl
      · rfl

/-! ## The step of the walk -/

theorem State.stepWalk_ignored {s : State} (h : s.powered = false ∨ s.ret.routeState ≠ .closing) : s.stepWalk = s :=
  if_pos h

section

variable {s : State} (on : s.powered = true) (closing : s.ret.routeState = .closing)
include on closing

theorem State.stepWalk_onward (more : s.main.walk + 1 < s.ret.clampedCount) :
    s.stepWalk = { s.visitIndex s.main.walk with main := { s.main with walk := s.main.walk + 1 } } := by
  obtain ⟨main, count⟩ := s.visitIndex_frame s.main.walk
  rw [State.stepWalk, if_neg (by simp [on, closing])]
  simp only [main, count]
  rw [if_neg (Nat.not_le.2 more)]

theorem State.stepWalk_last (last : s.ret.clampedCount ≤ s.main.walk + 1) :
    s.stepWalk = ((s.visitIndex s.main.walk).write Retained.endRoute).offerStatus := by
  obtain ⟨-, count⟩ := s.visitIndex_frame s.main.walk
  rw [State.stepWalk, if_neg (by simp [on, closing])]
  simp only [count]
  rw [if_pos last]

end

/-! ## The end of the walk -/

theorem Retained.endRoute_unnumbered {r : Retained} (h : seqMax < r.nextSeq) :
    r.endRoute = { r with reserved := false, routeState := .closed } := by
  rw [Retained.endRoute, if_neg (Nat.not_le.2 h)]

theorem Retained.endRoute_numbered {r : Retained} (h : r.nextSeq ≤ seqMax) :
    r.endRoute = { r.append r.routeNumber .closed (.routeEnd
      { readHere := (r.entries.filter RouteEntry.isReadHere).length
        readPeer := (r.entries.filter RouteEntry.isReadPeer).length
        missedListed := r.listed
        missedUnlisted := r.unlisted
        withFindings := (r.entries.filter fun e => e.findings != 0#12).length }) with
      reserved := false, routeState := .closed } := by
  rw [Retained.endRoute, if_pos h]
  simp only [List.countP_eq_length_filter]

end Sys2Proof.Machine
end

section
/-! # A sound route table: what each write leaves of R123, R126 and the widths of the clocks (R127, R184) -/

namespace Sys2Proof.Machine

/-! ## Changes of an entry -/

/-- `f` leaves the fields of an entry that R123 and R129 bound. -/
def KeepsFields (f : RouteEntry → RouteEntry) : Prop :=
  ∀ e, (f e).index = e.index ∧ (f e).meter = e.meter ∧ (f e).dr = e.dr ∧ (f e).p = e.p

/-- `f` is a change of the kind made in RUNNING: it leaves the bounded fields, and makes no entry MISSED (R99). -/
structure KeepsEntry (f : RouteEntry → RouteEntry) : Prop where
  fields : KeepsFields f
  unmissed : ∀ e, e.isMissed = false → (f e).isMissed = false

theorem KeepsFields.ite {f : RouteEntry → RouteEntry} (h : KeepsFields f) (c : RouteEntry → Prop) [DecidablePred c] :
    KeepsFields fun e => if c e then f e else e := by
  intro e
  dsimp only
  split
  · exact h e
  · exact ⟨rfl, rfl, rfl, rfl⟩

theorem KeepsEntry.ite {f : RouteEntry → RouteEntry} (h : KeepsEntry f) (c : RouteEntry → Prop) [DecidablePred c] :
    KeepsEntry fun e => if c e then f e else e := by
  refine ⟨h.fields.ite c, fun e he => ?_⟩
  split
  · exact h.unmissed e he
  · exact he

theorem keepsFields_miss : KeepsFields RouteEntry.miss := fun _ => ⟨rfl, rfl, rfl, rfl⟩

theorem keepsEntry_readHere (c : Contact) : KeepsEntry fun e => { e.logged c with state := .readHere } :=
  ⟨fun _ => ⟨rfl, rfl, rfl, rfl⟩, fun _ _ => rfl⟩

theorem keepsEntry_logged (c : Contact) : KeepsEntry (RouteEntry.logged c) :=
  ⟨fun _ => ⟨rfl, rfl, rfl, rfl⟩, fun _ h => h⟩

theorem keepsEntry_due : KeepsEntry (RouteEntry.withState .due) :=
  ⟨fun _ => ⟨rfl, rfl, rfl, rfl⟩, fun _ _ => rfl⟩

theorem keepsEntry_double : KeepsEntry fun e => { e with double := true } :=
  ⟨fun _ => ⟨rfl, rfl, rfl, rfl⟩, fun _ h => h⟩

theorem keepsEntry_meetAmong (r : Retained) (cs : List Contact) : KeepsEntry (meetAmong r cs) := by
  refine ⟨fun e => ?_, fun _ => meetAmong_isMissed r cs⟩
  rw [meetAmong_eq]
  exact ⟨rfl, rfl, rfl, rfl⟩

/-- A change of STATE alone, by a function that never answers MISSED but for MISSED. -/
theorem keepsEntry_state {g : EntryState → EntryState} (h : ∀ x c, g x = .missed c → ∃ k, x = .missed k) :
    KeepsEntry fun e => { e with state := g e.state } := by
  refine ⟨fun _ => ⟨rfl, rfl, rfl, rfl⟩, fun e he => ?_⟩
  rw [RouteEntry.isMissed_eq_false_iff] at he ⊢
  intro c missed
  obtain ⟨k, was⟩ := h _ _ missed
  exact he k was

theorem keepsEntry_afterCession (k : Claim) : KeepsEntry fun e => { e with state := EntryState.afterCession k e.state } :=
  keepsEntry_state fun x c missed => by
    simp only [EntryState.afterCession] at missed
    split at missed
    · cases missed
    · split at missed
      · cases missed
      · cases missed
      · exact ⟨c, missed⟩

theorem keepsEntry_noteClaiming (k : Claim) : KeepsEntry fun e => { e with state := EntryState.noteClaiming k e.state } :=
  keepsEntry_state fun x c missed => by
    cases x with
    | missed k => exact ⟨k, rfl⟩
    | peerClaiming n q =>
      simp only [EntryState.noteClaiming] at missed
      split at missed <;> cases missed
    | due | readHere | readPeer => cases missed

theorem keepsEntry_noteHeld (k : Claim) : KeepsEntry fun e => { e with state := EntryState.noteHeld k e.state } :=
  keepsEntry_state fun x c missed => by
    cases x with
    | missed k => exact ⟨k, rfl⟩
    | readPeer n q =>
      simp only [EntryState.noteHeld] at missed
      split at missed <;> cases missed
    | due | readHere | peerClaiming => cases missed

theorem keepsEntry_revert (n : Nat) : KeepsEntry fun e => { e with state := EntryState.revert n e.state } :=
  keepsEntry_state fun x c missed => by
    cases x with
    | missed k => exact ⟨k, rfl⟩
    | peerClaiming m q =>
      simp only [EntryState.revert] at missed
      split at missed <;> cases missed
    | due | readHere | readPeer => cases missed

/-! ## The table -/

/-- What R123 says of the entries, in every route state. -/
structure EntriesSound (count : Nat) (es : List RouteEntry) : Prop where
  rising : (es.map RouteEntry.index).Pairwise (· < ·)
  distinct : (es.map RouteEntry.meter).Nodup
  inRange : ∀ e ∈ es, e.InRange count

namespace EntriesSound

variable {count : Nat} {es : List RouteEntry}

theorem nil : EntriesSound count [] := ⟨.nil, .nil, fun _ h => absurd h List.not_mem_nil⟩

theorem map {f : RouteEntry → RouteEntry} (h : EntriesSound count es) (hf : KeepsFields f) :
    EntriesSound count (es.map f) := by
  have index : RouteEntry.index ∘ f = RouteEntry.index := funext fun e => (hf e).1
  have meter : RouteEntry.meter ∘ f = RouteEntry.meter := funext fun e => (hf e).2.1
  refine ⟨by simpa only [List.map_map, index] using h.rising, by simpa only [List.map_map, meter] using h.distinct,
    List.forall_mem_map.2 fun e he => ?_⟩
  obtain ⟨hi, hm, hd, hp⟩ := hf e
  unfold RouteEntry.InRange
  rw [hi, hm, hd, hp]
  exact h.inRange e he

/-- An entry takes its place where its meter stands at no other index (R129, test 6; R130, R131). -/
theorem store {e : RouteEntry} (h : EntriesSound count es) (range : e.InRange count)
    (single : ∀ x ∈ es, x.meter = e.meter → x.index = e.index) :
    EntriesSound count (insertBy RouteEntry.index e (es.filter fun x => x.index != e.index)) := by
  have others : ∀ x ∈ es.filter (fun x => x.index != e.index), x ∈ es ∧ x.index ≠ e.index := fun x hx => by
    simpa using hx
  refine ⟨pairwise_insertBy _ _ _ (h.rising.sublist (List.filter_sublist.map _)) fun x hx => (others x hx).2, ?_,
    fun x hx => ?_⟩
  · refine ((insertBy_perm _ e _).map RouteEntry.meter).nodup_iff.2 (List.nodup_cons.2 ⟨fun mem => ?_, ?_⟩)
    · obtain ⟨x, hx, same⟩ := List.mem_map.1 mem
      obtain ⟨mem, apart⟩ := others x hx
      exact apart (single x mem same)
    · exact h.distinct.sublist (List.filter_sublist.map _)
  · rcases (mem_insertBy _ _ _ _).1 hx with rfl | mem
    · exact range
    · exact h.inRange x (others x mem).1

end EntriesSound

/-! ## The retained domain -/

/-- The route table is as R123 and R126 promise, and the clocks are within their widths (R127, R184). -/
def Retained.RouteKept (r : Retained) : Prop := r.RouteSound ∧ r.ClocksInWidth

namespace Retained.RouteKept

variable {r : Retained}

theorem entriesSound (h : r.RouteKept) : EntriesSound r.clampedCount r.entries := by
  obtain ⟨⟨-, rising, distinct, inRange, -⟩, -⟩ := h
  exact ⟨rising, distinct, inRange⟩

theorem cleared (valid : Bool) : (clearedRetained valid).RouteKept :=
  ⟨⟨Nat.zero_le _, .nil, .nil, fun _ h => absurd h List.not_mem_nil, fun _ => ⟨rfl, rfl⟩,
    fun h => RouteState.noConfusion h, fun h => RouteState.noConfusion h⟩, Nat.zero_le _, Nat.zero_le _, Nat.zero_lt_succ _⟩

/-- The clocks stop at their widths, and the route clock stands in LOADING (R127, R184). -/
theorem passTime (n : Nat) (h : r.RouteKept) : (r.passTime n).RouteKept := by
  obtain ⟨⟨count, rising, distinct, inRange, noRoute, loading, running⟩, station, route, phase⟩ := h
  unfold Retained.passTime
  split
  · rename_i runs
    refine ⟨⟨count, rising, distinct, inRange, noRoute, fun h => ?_, running⟩, Nat.min_le_right _ _,
      Nat.min_le_right _ _, Nat.mod_lt _ (by decide)⟩
    rw [show r.routeState = .loading from h] at runs
    cases runs
  · exact ⟨⟨count, rising, distinct, inRange, noRoute, loading, running⟩, Nat.min_le_right _ _, route, phase⟩

/-- Entries change in RUNNING, without a MISSED one (R99). -/
theorem mapEntries {f : RouteEntry → RouteEntry} (h : r.RouteKept) (hf : KeepsEntry f)
    (runs : r.routeState = .running) : ({ r with entries := r.entries.map f } : Retained).RouteKept := by
  have table := h.entriesSound.map hf.fields
  obtain ⟨⟨count, -, -, -, -, -, running⟩, clocks⟩ := h
  exact ⟨⟨count, table.rising, table.distinct, table.inRange, by simp [runs], by simp [runs],
    fun _ => List.forall_mem_map.2 fun e he => hf.unmissed e (running runs e he)⟩, clocks⟩

theorem updRunningEntry {f : RouteEntry → RouteEntry} (m : MeterId) (hf : KeepsEntry f) (h : r.RouteKept) :
    (r.updRunningEntry m f).RouteKept := by
  unfold Retained.updRunningEntry
  split
  · exact h.mapEntries (hf.ite fun e => e.meter = m) ‹_›
  · exact h

theorem openRecord (c : Contact) (h : r.RouteKept) : (r.openRecord c).RouteKept :=
  updRunningEntry c.meter (keepsEntry_readHere c) h

theorem updateRecord (c : Contact) (q : Nat) (h : r.RouteKept) : (r.updateRecord c q).RouteKept :=
  updRunningEntry (r := r.updRecord q _) c.meter (keepsEntry_logged c) h

theorem markDouble (m : MeterId) (h : r.RouteKept) : (r.markDouble m).RouteKept := by
  unfold Retained.markDouble
  refine updRunningEntry m keepsEntry_double ?_
  split <;> exact h

theorem beginRoute (route count : Nat) (h : r.RouteKept) : (r.beginRoute route count).RouteKept := by
  obtain ⟨-, station, -⟩ := h
  exact ⟨⟨Nat.min_le_right _ _, .nil, .nil, fun _ h => absurd h List.not_mem_nil, fun h => RouteState.noConfusion h,
    fun _ => ⟨rfl, fun _ h => absurd h List.not_mem_nil⟩, fun h => RouteState.noConfusion h⟩,
    station, Nat.zero_le _, Nat.zero_lt_succ _⟩

theorem startRoute (cs : List Contact) (h : r.RouteKept) (load : r.routeState = .loading) :
    (r.startRoute cs).RouteKept := by
  have table := h.entriesSound.map (keepsEntry_meetAmong r cs).fields
  obtain ⟨⟨count, -, -, -, -, loading, -⟩, station, -⟩ := h
  refine ⟨⟨count, table.rising, table.distinct, table.inRange, fun h => RouteState.noConfusion h,
    fun h => RouteState.noConfusion h, fun _ => List.forall_mem_map.2 fun e he => ?_⟩, station, Nat.zero_le _,
    Nat.zero_lt_succ _⟩
  obtain ⟨due, -⟩ := (loading load).2 e he
  exact meetAmong_isMissed r cs ((RouteEntry.isMissed_eq_false_iff e).2 (by simp [due]))

theorem startClosing (h : r.RouteKept) : r.startClosing.RouteKept := by
  obtain ⟨⟨count, rising, distinct, inRange, -⟩, clocks⟩ := h
  exact ⟨⟨count, rising, distinct, inRange, fun h => RouteState.noConfusion h, fun h => RouteState.noConfusion h,
    fun h => RouteState.noConfusion h⟩, clocks⟩

theorem missAt (i : Nat) (h : r.RouteKept) (closing : r.routeState = .closing) : (r.missAt i).RouteKept := by
  have table := h.entriesSound.map (keepsFields_miss.ite fun e => e.index = i)
  obtain ⟨⟨count, -⟩, clocks⟩ := h
  exact ⟨⟨count, table.rising, table.distinct, table.inRange, by simp [Retained.missAt, closing],
    by simp [Retained.missAt, closing], by simp [Retained.missAt, closing]⟩, clocks⟩

theorem missHere (e : RouteEntry) (h : r.RouteKept) (closing : r.routeState = .closing) :
    (r.missHere e).RouteKept := by
  unfold Retained.missHere
  split
  · exact missAt e.index h closing
  · exact missAt e.index h closing

theorem endRoute (h : r.RouteKept) : r.endRoute.RouteKept := by
  obtain ⟨⟨count, rising, distinct, inRange, -⟩, clocks⟩ := h
  unfold Retained.endRoute
  split <;>
  exact ⟨⟨count, rising, distinct, inRange, fun h => RouteState.noConfusion h, fun h => RouteState.noConfusion h,
    fun h => RouteState.noConfusion h⟩, clocks⟩

/-- A stored entry has passed the six tests, and is as its route state asks (R129 to R132). -/
theorem storeEntry {s : State} {f : EntryFields} (h : s.ret.RouteKept) (taken : s.ret.TakesEntries)
    (fits : s.ret.Fits f) (single : ¬ s.ret.StandsElsewhere f) : (s.ret.storeEntry (s.entryToStore f)).RouteKept := by
  obtain ⟨below, m0, m1, low, high, reading, -⟩ := fits
  have range : (s.entryToStore f).InRange s.ret.clampedCount := by
    rw [State.entryToStore_eq]
    exact ⟨below, (validMeter_iff f.meter).2 ⟨m0, m1⟩, low, high, reading⟩
  have apart : ∀ x ∈ s.ret.entries, x.meter = (s.entryToStore f).meter → x.index = (s.entryToStore f).index := by
    rw [State.entryToStore_eq]
    exact fun x hx same => by_contra fun other => single ⟨x, hx, same, other⟩
  have table := h.entriesSound.store range apart
  have members {Q : RouteEntry → Prop} (new : Q (s.entryToStore f)) (old : ∀ e ∈ s.ret.entries, Q e) :
      ∀ e ∈ (s.ret.storeEntry (s.entryToStore f)).entries, Q e := fun e he => by
    rcases (mem_insertBy _ _ _ _).1 he with rfl | mem
    · exact new
    · exact old e (List.mem_filter.1 mem).1
  obtain ⟨⟨count, -, -, -, -, loading, running⟩, clocks⟩ := h
  refine ⟨⟨count, table.rising, table.distinct, table.inRange, fun unloaded => ?_, fun loads => ?_, fun runs => ?_⟩, clocks⟩
  · have route : s.ret.routeState = .noRoute := unloaded
    simp [Retained.TakesEntries, route] at taken
  · obtain ⟨clock, untouched⟩ := loading loads
    refine ⟨clock, members ?_ untouched⟩
    rw [State.entryToStore_loading f loads]
    exact ⟨rfl, rfl, rfl, rfl⟩
  · refine members ?_ (running runs)
    rw [State.entryToStore_running f runs]
    exact meetAmong_isMissed _ _ rfl

end Retained.RouteKept

end Sys2Proof.Machine
end

section
/-! # Every step keeps the route table sound and the clocks in width (R123, R126, R127, R184)

An operation that writes nothing, or writes the capture log alone, leaves all that is promised here; the first are those
of `State.Keeps`, with nothing asked of the contacts. -/

namespace Sys2Proof.Machine

/-- The route table is sound and the clocks in width, whichever of the writes a loss of supply takes back (R159). -/
def State.KeepsRoute (s : State) : Prop := s.Keeps (fun _ => True) Retained.RouteKept

namespace State.KeepsRoute

variable {s : State}

/-- A change outside the retained domain, the contacts included. -/
theorem aside {t : State} (h : s.KeepsRoute) (ret : t.ret = s.ret) (journal : t.journal = s.journal) :
    t.KeepsRoute := by
  refine ⟨fun _ _ => trivial, ?_⟩
  unfold State.EveryRetained
  rw [ret, journal]
  exact h.retained

/-- Records are updated, and the route table with the clocks is not touched. -/
theorem update (q : Nat) (f : Record → Record) (h : s.KeepsRoute) : (s.write fun r => r.updRecord q f).KeepsRoute :=
  h.write fun k => k

theorem raise (q : Nat) (h : s.KeepsRoute) : (s.raise q).KeepsRoute := by
  rcases s.raise_cases q with e | e <;> rw [e]
  · exact h
  · exact h.update q _

theorem passTime (n : Nat) (h : s.KeepsRoute) : (s.passTime n).KeepsRoute := by
  obtain ⟨-, now, before⟩ := h
  refine ⟨fun _ _ => trivial, ?_, before⟩
  rw [State.passTime_ret]
  split
  · exact now.passTime n
  · exact now

theorem markAll (m : DrainMark) (l : List Nat) (h : s.KeepsRoute) : (s.markAll m l).KeepsRoute :=
  h.foldl (fun _ q hu => update q _ hu) l

/-! ## Entries that follow a contact or a claim -/

theorem changeEntry (m : MeterId) {f : RouteEntry → RouteEntry} (hf : KeepsEntry f) (h : s.KeepsRoute) :
    (s.changeEntry m f).KeepsRoute := by
  rcases s.changeEntry_cases m f with ⟨-, e⟩ | ⟨x, hx, e⟩ <;> rw [e]
  · exact h
  · obtain ⟨runs, -⟩ := (Retained.runningEntryOf_eq_some_iff s.ret m x).1 hx
    exact h.write fun k => k.mapEntries (hf.ite fun e => e.meter = m) runs

theorem enterHeld (c : Contact) (h : s.KeepsRoute) : (s.enterHeld c).KeepsRoute :=
  raise _ (aside (h.write fun k => k.openRecord _) rfl rfl)

theorem attemptClaim (m : MeterId) (h : s.KeepsRoute) : (s.attemptClaim m).KeepsRoute := by
  rcases s.attemptClaim_cases m with e | ⟨c, -, -, ⟨-, e⟩ | ⟨-, ⟨k, -, e⟩ | ⟨-, -, e⟩ | ⟨-, -, e⟩⟩⟩ <;> rw [e]
  · exact h
  · exact h.setContact trivial
  · exact h.setContact trivial
  · exact h.enterHeld c
  · rcases s.offerClaim_cases c with ⟨-, e⟩ | ⟨-, e⟩ <;> rw [e]
    · exact (h.offer _).setContact trivial
    · exact h

theorem removeContact (m : MeterId) (h : s.KeepsRoute) : (s.removeContact m).KeepsRoute := by
  rcases s.removeContact_cases m with ⟨-, e⟩ | ⟨c, -, ⟨q, -, e⟩ | ⟨-, e⟩ | ⟨-, e⟩⟩ <;> rw [e]
  · exact h
  · exact (h.update q _).dropContact m
  · exact h.aside rfl rfl
  · exact h.dropContact m

theorem finishIdle (m : MeterId) (h : s.KeepsRoute) : (s.finishIdle m).KeepsRoute := by
  unfold State.finishIdle
  split
  · exact h
  · split
    · exact h.removeContact m
    · exact h

theorem clearContacts (h : s.KeepsRoute) : s.clearContacts.KeepsRoute :=
  aside (h.foldl (fun _ q hu => update q _ hu) s.heldSeqs) rfl rfl

/-! ## Arrivals -/

theorem followRecord (c : Contact) (h : s.KeepsRoute) : (s.followRecord c).KeepsRoute := by
  unfold State.followRecord
  split
  · exact raise _ (h.write fun k => k.updateRecord c _)
  · exact h

theorem countedArrival (x : Arrival) (h : s.KeepsRoute) : (s.countedArrival x).KeepsRoute := by
  unfold State.countedArrival
  split
  · exact h
  · rename_i c _
    have recorded := followRecord (s.recordArrival c x) (h.setContact (c := s.recordArrival c x) trivial)
    simp only [State.judgeEligibility]
    split
    · exact recorded.attemptClaim _
    · split
      · exact attemptClaim _ (recorded.setContact trivial)
      · exact recorded

theorem duplicateArrival (m : MeterId) (t q : Nat) (h : s.KeepsRoute) : (s.duplicateArrival m t q).KeepsRoute := by
  unfold State.duplicateArrival
  split
  · exact h
  · simp only
    split
    · exact update _ _ (h.setContact trivial)
    · exact h.setContact trivial

theorem ensureContact (b : Burst) (t : Nat) (on : Bool) (h : s.KeepsRoute) : (s.ensureContact b t on).KeepsRoute := by
  unfold State.ensureContact
  split
  · exact h
  · exact h.evict.addContact trivial

theorem takeFrom (p : Port) (h : s.KeepsRoute) : (s.takeFrom p).KeepsRoute := by
  unfold State.takeFrom
  split
  · exact h
  · rename_i f rest _
    have counted : ((s.setPort p { s.main.port p with slots := rest }).countDisposition p
      (s.judge f).disposition).KeepsRoute := h.aside rfl rfl
    simp only [State.handOver]
    split
    · exact countedArrival _ (ensureContact _ _ _ counted)
    · exact duplicateArrival _ _ _ counted
    · exact counted

/-! ## The timers of a contact -/

theorem contactExpiry {m : MeterId} {timer : Contact → Timer} {act : State → Contact → State} (h : s.KeepsRoute)
    (kept : ∀ u c, State.KeepsRoute u → (act u c).KeepsRoute) : (s.contactExpiry m timer act).KeepsRoute := by
  unfold State.contactExpiry
  split
  · exact h
  · split
    · exact h
    · exact kept _ _ (h.passTime _)

theorem idleExpired (c : Contact) (h : s.KeepsRoute) : (s.idleExpired c).KeepsRoute := by
  unfold State.idleExpired
  split
  · exact h.setContact trivial
  · exact h.removeContact _

theorem holdOffExpired (c : Contact) (h : s.KeepsRoute) : (s.holdOffExpired c).KeepsRoute :=
  attemptClaim _ (h.setContact trivial)

theorem settleExpired (c : Contact) (h : s.KeepsRoute) : (s.settleExpired c).KeepsRoute := by
  unfold State.settleExpired State.settleContact
  split
  · split
    · exact finishIdle _ ((h.enterHeld c).offer _)
    · exact finishIdle _ (changeEntry _ keepsEntry_due ((h.offer _).setContact trivial))
  · exact h

/-! ## Claims -/

theorem answerAsHolder (m : MeterId) (q : Nat) (c : Claim) (h : s.KeepsRoute) : (s.answerAsHolder m q c).KeepsRoute := by
  unfold State.answerAsHolder
  split
  · exact h.offer _
  · exact h.write fun k => k.markDouble m

theorem cede (x : Contact) (k : Claim) (h : s.KeepsRoute) : (s.cede x k).KeepsRoute :=
  changeEntry _ (keepsEntry_afterCession k) (h.setContact trivial)

theorem claimAtEntry (m : MeterId) (c : Claim) (h : s.KeepsRoute) : (s.claimAtEntry m c).KeepsRoute := by
  unfold State.claimAtEntry
  split
  · exact h
  · split
    · exact h.answerAsHolder _ _ _
    · split
      · exact h.changeEntry _ (keepsEntry_noteClaiming c)
      · exact h.changeEntry _ (keepsEntry_noteHeld c)

theorem claimAtContact (x : Contact) (c : Claim) (h : s.KeepsRoute) :
    (s.claimAtListening x c).KeepsRoute ∧ (s.claimAtClaiming x c).KeepsRoute ∧
      ∀ k, (s.claimAtCeded x k c).KeepsRoute := by
  unfold State.claimAtListening State.claimAtClaiming State.claimAtCeded
  refine ⟨?_, ?_, fun k => ?_⟩
  · split
    · exact h.answerAsHolder _ _ _
    · split
      · exact h.cede x c
      · exact h.changeEntry _ (keepsEntry_noteClaiming c)
  · split
    · exact finishIdle _ (h.cede x c)
    · exact changeEntry _ (keepsEntry_noteClaiming c) (h.offer _)
  · split
    · exact changeEntry _ (keepsEntry_afterCession c) (h.setContact trivial)
    · exact h

theorem placeClaim (m : MeterId) (c : Claim) (h : s.KeepsRoute) : (s.placeClaim m c).KeepsRoute := by
  unfold State.placeClaim
  split
  · exact h
  · split
    · exact h.claimAtEntry m c
    · rename_i x _
      obtain ⟨listening, claiming, ceded⟩ := h.claimAtContact x c
      split
      · exact h.answerAsHolder _ _ _
      · exact listening
      · exact claiming
      · exact ceded _

theorem placeYield (m : MeterId) (n : Nat) (h : s.KeepsRoute) : (s.placeYield m n).KeepsRoute := by
  have released (o : Option Contact) : (match o with
      | some x => if x.cededToClaiming n then s.setContact x.release else s
      | none => s).KeepsRoute := by
    split
    · split
      · exact h.setContact trivial
      · exact h
    · exact h
  simp only [State.placeYield]
  split
  · exact h
  · split
    · exact changeEntry _ (keepsEntry_revert n) (released _)
    · exact released _

theorem revertPeer (n : Nat) (h : s.KeepsRoute) : (s.revertPeer n).KeepsRoute := by
  simp only [State.revertPeer]
  split
  · rename_i runs
    exact State.Keeps.write (h.aside rfl rfl) fun k => k.mapEntries (keepsEntry_revert n) runs
  · exact h.aside rfl rfl

/-! ## The drain engine and the alert unit -/

theorem clearBatch (h : s.KeepsRoute) : s.clearBatch.KeepsRoute :=
  (h.markAll .unsent s.main.drain.batch).clearDrainPost.aside rfl rfl rfl

theorem endDrain (h : s.KeepsRoute) : s.endDrain.KeepsRoute := by
  unfold State.endDrain
  split
  · exact h
  · exact h.clearBatch.aside rfl rfl

theorem formBatch (h : s.KeepsRoute) : s.formBatch.KeepsRoute := by
  have marked := h.markAll .sentInBatch s.ret.batchChoice
  simp only [State.formBatch]
  split
  · exact marked.aside rfl rfl
  · exact State.Keeps.offerDrainPost (marked.aside rfl rfl)

theorem openDrain (src : Nat) (h : s.KeepsRoute) : (s.openDrain src).KeepsRoute := by
  have cleared : (if s.main.drain.state = .idle then s else s.clearBatch).KeepsRoute := by
    split
    · exact h
    · exact h.clearBatch
  exact formBatch (cleared.aside rfl rfl)

theorem closeDrain (src : Nat) (h : s.KeepsRoute) : (s.closeDrain src).KeepsRoute := by
  unfold State.closeDrain
  split
  · exact h.endDrain
  · exact h

theorem commitDrain (src v : Nat) (h : s.KeepsRoute) : (s.commitDrain src v).KeepsRoute := by
  unfold State.commitDrain
  split
  · have committed : (s.write (Retained.commit s.main.drain.batch v)).KeepsRoute := h.write fun k => k
    have released := committed.foldl (fun _ x hu => hu.releaseAlert x.1 x.2) (s.releasedAlerts v)
    exact formBatch (aside released rfl rfl)
  · exact h

theorem attemptFailed (h : s.KeepsRoute) : s.attemptFailed.KeepsRoute := by
  have left (c : Option Current) : (s.setCurrent c).KeepsRoute := h.aside rfl rfl
  unfold State.attemptFailed
  split
  · exact h
  · split
    · exact h
    · split
      · split
        · exact (left none).clearedPostEnded
        · exact left none
      · split
        · split
          · exact endDrain ((left none).aside rfl rfl)
          · exact (left none).aside rfl rfl
        · exact left _

theorem promote (h : s.KeepsRoute) : s.promote.KeepsRoute := by
  unfold State.promote
  split
  · exact h
  · split
    · exact aside (update _ _ h) rfl rfl
    · exact h

theorem ackAlert (slot : Byte) (q : Nat) (h : s.KeepsRoute) : (s.ackAlert slot q).KeepsRoute := by
  unfold State.ackAlert
  split
  · exact h
  · split
    · exact aside (h.update q _) rfl rfl
    · exact h

/-! ## The route -/

theorem routeBegun (route count : Nat) (h : s.KeepsRoute) : (s.routeBegun route count).KeepsRoute := by
  have begun : (s.write (Retained.beginRoute route count)).KeepsRoute := h.write fun k => k.beginRoute route count
  simp only [State.routeBegun]
  split
  · exact h
  · split
    · split
      · exact begun
      · exact begun.offerStatus
    · exact h.aside rfl rfl

theorem takeEntries (fs : List EntryFields) (h : s.KeepsRoute) : (s.takeEntries fs).KeepsRoute := by
  refine h.foldl (fun u f (hu : u.KeepsRoute) => ?_) fs
  rcases u.ret.judgeEntry_cases f with ⟨refused, -⟩ | ⟨⟨taken, fits⟩, ⟨double, -⟩ | ⟨single, -⟩⟩
  · rwa [State.takeEntry_refused refused]
  · rw [State.takeEntry_duplicate taken fits double]
    exact hu.aside rfl rfl
  · rw [State.takeEntry_stored taken fits single]
    exact hu.write fun k => Retained.RouteKept.storeEntry k taken fits single

theorem routeGone (src : Nat) (h : s.KeepsRoute) : (s.routeGone src).KeepsRoute := by
  unfold State.routeGone State.offerGap
  split
  · rename_i loading
    have going : (s.write (Retained.startRoute s.main.contacts)).KeepsRoute :=
      h.write fun k => k.startRoute _ loading
    split
    · exact going.offerStatus
    · exact (going.offer _).offerStatus
  · exact h

theorem routeClosed (h : s.KeepsRoute) : s.routeClosed.KeepsRoute := by
  have closing : (s.write Retained.startClosing).KeepsRoute := h.write Retained.RouteKept.startClosing
  unfold State.routeClosed
  split
  · exact State.Keeps.offerStatus (closing.clearContacts.aside rfl rfl)
  · exact h

theorem visitIndex (i : Nat) (h : s.KeepsRoute) (closing : s.ret.routeState = .closing) :
    (s.visitIndex i).KeepsRoute := by
  cases found : s.ret.entryAt i with
  | none => rwa [State.visitIndex_empty found]
  | some e =>
    cases due : e.countsDue with
    | false => rwa [State.visitIndex_passed found due]
    | true =>
      rw [State.visitIndex_due found due]
      refine h.write fun k => ?_
      split
      · exact k.missHere e closing
      · exact k.missAt i closing

theorem stepWalk (h : s.KeepsRoute) : s.stepWalk.KeepsRoute := by
  by_cases ignored : s.powered = false ∨ s.ret.routeState ≠ .closing
  · rwa [State.stepWalk_ignored ignored]
  obtain ⟨on, closing⟩ : s.powered = true ∧ s.ret.routeState = .closing := by simpa using ignored
  have visited := h.visitIndex s.main.walk closing
  rcases Nat.lt_or_ge (s.main.walk + 1) s.ret.clampedCount with more | last
  · rw [State.stepWalk_onward on closing more]
    exact visited.aside rfl rfl
  · rw [State.stepWalk_last on closing last]
    exact State.Keeps.offerStatus (visited.write Retained.RouteKept.endRoute)

/-! ## Parking, reset, starts and losses of supply -/

theorem enterParked (h : s.KeepsRoute) : s.enterParked.KeepsRoute := by
  have flushed : s.clearContacts.flushPorts.KeepsRoute := h.clearContacts.aside rfl rfl
  exact flushed.endDrain.aside rfl rfl

theorem parkPost (h : s.KeepsRoute) : s.parkPost.KeepsRoute := by
  unfold State.parkPost
  split
  · exact h
  · exact h.enterParked

theorem ignFell (h : s.KeepsRoute) : s.ignFell.KeepsRoute := by
  unfold State.ignFell
  split
  · exact h.enterParked
  · exact h

theorem stationReset (h : s.KeepsRoute) : s.stationReset.KeepsRoute := by
  have pending : s.clearContacts.returnSlotted.KeepsRoute :=
    h.clearContacts.foldl (fun _ (x : Record) hu => update x.seq (Record.withAlert .pending) hu) _
  exact State.Keeps.offerStatus ((pending.markAll .unsent s.main.drain.batch).aside rfl rfl)

theorem started (strap : Nat) (block : List Byte) (pins : Pins) (h : s.KeepsRoute) :
    (s.started strap block pins).KeepsRoute := by
  have decided : s.decideCause.KeepsRoute := by
    unfold State.decideCause
    split
    · exact h.foldl (fun _ (x : Record) hu => update x.seq Record.restore hu) _
    · exact h.write fun _ => .cleared true
  exact State.Keeps.offerStatus (decided.aside rfl rfl)

/-- A loss of the main supply brings back the retained domain as it stood before one of the step's writes (R159). -/
theorem loseMain (cut : Nat) (h : s.KeepsRoute) : (s.loseMain cut).KeepsRoute := by
  obtain ⟨now, before⟩ := h.retained
  have back : (s.retainedBefore cut).RouteKept := by
    unfold State.retainedBefore
    cases last : (s.journal.take cut).getLast? with
    | none => exact now
    | some r => exact before r (List.mem_of_mem_take (List.mem_of_getLast? last))
  unfold State.loseMain
  split
  · refine ⟨fun _ _ => trivial, ?_, fun _ hr => absurd hr List.not_mem_nil⟩
    show Retained.RouteKept (if s.backup then s.retainedBefore cut else clearedRetained false)
    split
    · exact back
    · exact .cleared false
  · exact h.begin

theorem loseBackup (h : s.KeepsRoute) : s.loseBackup.KeepsRoute := by
  obtain ⟨-, now, before⟩ := h
  refine ⟨fun _ _ => trivial, ?_, before⟩
  show Retained.RouteKept (if s.powered then s.ret else clearedRetained false)
  split
  · exact now
  · exact .cleared false

/-! ## Every command and every step -/

theorem actOnKind (k : Kind) (src : Nat) (body : List Byte) (h : s.KeepsRoute) :
    (s.actOnKind k src body).KeepsRoute := by
  cases k with
  | claim => exact h.placeClaim _ _
  | yield => exact h.placeYield _ _
  | alertAck => exact h.ackAlert _ _
  | routeBegin => exact h.routeBegun _ _
  | routeEntry => exact h.takeEntries _
  | routeGo => exact h.routeGone _
  | routeClose => exact h.routeClosed
  | park => exact h.parkPost
  | run => exact h.runPost
  | reset => exact h.stationReset
  | configQuery => exact h.offer _
  | countQuery => exact h.answerCount _ _
  | drainOpen => exact h.openDrain _
  | commit => exact h.commitDrain _ _
  | drainClose => exact h.closeDrain _
  | status | alert | routeGap | configReport | countReport | record | batchEnd => exact h

theorem hearBytes (bytes : List Byte) (h : s.KeepsRoute) : (s.hearBytes bytes).KeepsRoute := by
  unfold State.hearBytes
  split
  · split
    · exact h.postPasses.aside rfl rfl rfl
    · exact h.postPasses
  · refine h.hear _ _ fun u hu => ?_
    unfold State.actOnPost
    split
    · split
      · split
        · exact actOnKind _ _ _ hu
        · exact actOnKind _ _ _ hu.restartParkReturn
      · exact hu
    · exact hu

theorem exec {t : State} (i : Instr) (h : s.KeepsRoute) (next : Machine.exec i s = .next t) : t.KeepsRoute := by
  have begun : s.begin.KeepsRoute := h.begin
  cases i with
  | frameComplete p wait bits falls => cases next; exact (begun.passTime wait).lineStretch p bits falls
  | take p => cases next; exact begun.takeFrom p
  | idleExpiry m => cases next; exact begun.contactExpiry fun _ c hu => hu.idleExpired c
  | holdOffExpiry m => cases next; exact begun.contactExpiry fun _ c hu => hu.holdOffExpired c
  | settleExpiry m => cases next; exact begun.contactExpiry fun _ c hu => hu.settleExpired c
  | attempt quiet => cases next; exact State.Keeps.attemptAfter quiet begun
  | postSent => cases next; exact State.Keeps.attemptSent begun
  | attemptLost => cases next; exact begun.attemptFailed
  | postReceived bytes => cases next; exact begun.hearBytes bytes
  | claim src m q hold => cases next; exact begun.hear _ _ fun _ hu => placeClaim m _ hu
  | yield src m => cases next; exact begun.hear _ _ fun _ hu => placeYield m _ hu
  | status src role | alert src role => cases next; exact begun.hear _ _ fun _ hu => hu
  | alertAck src slot q => cases next; exact begun.hearAddressed _ _ fun _ hu => ackAlert slot _ hu
  | routeBegin src route count => cases next; exact begun.hearAddressed _ _ fun _ hu => routeBegun _ _ hu
  | routeEntry src fs => cases next; exact begun.hearAddressed _ _ fun _ hu => takeEntries fs hu
  | routeGo src => cases next; exact begun.hearAddressed _ _ fun _ hu => routeGone _ hu
  | routeClose src => cases next; exact begun.hearAddressed _ _ fun _ hu => routeClosed hu
  | walkStep => cases next; exact begun.stepWalk
  | park src => cases next; exact begun.hearAddressed _ _ fun _ hu => parkPost hu
  | run src => cases next; exact begun.hearAddressed _ _ fun _ hu => hu.runPost
  | reset src role => cases next; exact begun.hearQuery _ _ fun _ hu => stationReset hu
  | configQuery src role => cases next; exact begun.hearQuery _ _ fun _ hu => hu.offer _
  | countQuery src role part => cases next; exact begun.hearQuery _ _ fun _ hu => hu.answerCount _ part
  | drainOpen src => cases next; exact begun.hearAddressed _ _ fun _ hu => openDrain _ hu
  | commit src v => cases next; exact begun.hearAddressed _ _ fun _ hu => commitDrain _ _ hu
  | drainClose src => cases next; exact begun.hearAddressed _ _ fun _ hu => closeDrain _ hu
  | commitWaitExpiry =>
    cases next
    unfold State.commitWaitExpired
    split
    · exact begun
    · exact endDrain (begun.passTime _)
  | drainPostOffer =>
    cases next
    split
    · exact State.Keeps.offerDrainPost begun
    · exact begun
  | promotion => cases next; exact begun.promote
  | statusTimerExpiry =>
    cases next
    unfold State.statusTimerExpired
    split
    · exact begun
    · exact State.Keeps.offerStatus (begun.passTime _)
  | silence n =>
    cases next
    unfold State.silenceExpired
    split
    · exact begun
    · exact revertPeer _ ((begun.passTime _).aside rfl rfl)
  | ignFallingEdge => cases next; exact ignFell (begun.aside rfl rfl)
  | ignRisingEdge => cases next; exact State.Keeps.ignRose (begun.aside rfl rfl)
  | wake quiet => cases next; exact State.Keeps.lineActive quiet begun
  | wakeSettleExpiry =>
    cases next
    unfold State.wakeSettled
    split
    · exact begun
    · exact State.Keeps.offerStatus ((begun.passTime _).aside rfl rfl)
  | parkReturnExpiry =>
    cases next
    unfold State.parkReturnExpired
    split
    · exact begun
    · exact enterParked (begun.passTime _)
  | enterSag mv => cases next; exact State.Keeps.judgeSag (begun.aside rfl rfl)
  | returnToNormal mv => cases next; exact State.Keeps.judgeNormal (begun.aside rfl rfl)
  | mainSupplyLoss cut => cases next; exact h.loseMain cut
  | startUp straps block ign mv => cases next; exact begun.started _ block _
  | backupSupplyLoss =>
    cases next
    split
    · exact begun.loseBackup
    · exact begun.aside rfl rfl

theorem step {t : State} (h : s.KeepsRoute) (next : Machine.step s = .next t) : t.KeepsRoute := by
  unfold Machine.step at next
  split at next
  · cases next
    exact passTime 1 h.begin
  · rename_i i rest _
    exact exec (s := { s with pending := rest }) i (h.aside rfl rfl) next

end State.KeepsRoute

/-- Settles O53: each write keeps what `Retained.RouteKept` says, in the route state in which it is made. -/
theorem routeTableIsKeptSound : Obligations.RouteTableIsKeptSound := by
  unfold Obligations.RouteTableIsKeptSound
  intro s t sound next
  have kept : s.KeepsRoute := ⟨fun _ _ => trivial, sound⟩
  exact (kept.step next).retained

end Sys2Proof.Machine
end

section
/-! # ROUTE-BEGIN, ROUTE-ENTRY and ROUTE-GO: a route named, loaded and started (R126, R128 to R136) -/

namespace Sys2Proof.Machine

/-! ## ROUTE-BEGIN -/

theorem exec_routeBegin_of_takesFrom {s : State} {src : BitVec 4} (takes : s.TakesFrom src) (route count : BitVec 16) :
    exec (.routeBegin src route count) s =
      .next ((s.hearing src .console).routeBegun route.toNat count.toNat) :=
  congrArg Host.Outcome.next (s.hearAddressed_of_takesFrom src .console _ takes)

theorem State.routeBegun_ignored (s : State) {route count : Nat} (h : route = 0 ∨ count = 0) :
    s.routeBegun route count = s := if_pos h

section

variable {s : State} {route count : Nat} (named : route ≠ 0) (counted : count ≠ 0)
include named counted

theorem State.routeBegun_accepted (h : s.ret.acceptsBegin = true) :
    s.routeBegun route count =
      if s.ret.routeState = .loading then s.write (Retained.beginRoute route count)
      else (s.write (Retained.beginRoute route count)).offerStatus := by
  rw [State.routeBegun, if_neg (by simp [named, counted]), if_pos h]

theorem State.routeBegun_refused (h : s.ret.acceptsBegin = false) :
    s.routeBegun route count = { s with main := { s.main with routeRefused := s.main.routeRefused + 1 } } := by
  rw [State.routeBegun, if_neg (by simp [named, counted]), if_neg (by simp [h])]

end

theorem Retained.acceptsBegin_of_unloaded {r : Retained} (h : r.routeState = .noRoute ∨ r.routeState = .closed) :
    r.acceptsBegin = decide (r.log.length < logLimit) := by
  rcases h with h | h <;> rw [Retained.acceptsBegin, h]

theorem Retained.acceptsBegin_of_loading {r : Retained} (h : r.routeState = .loading) : r.acceptsBegin = true := by
  rw [Retained.acceptsBegin, h]

theorem Retained.acceptsBegin_of_going {r : Retained} (h : r.routeState = .running ∨ r.routeState = .closing) :
    r.acceptsBegin = false := by
  rcases h with h | h <;> rw [Retained.acceptsBegin, h]

/-- Settles O33: a route that is named is accepted or refused by its state and, outside LOADING, by the occupancy. -/
theorem routeBeginIsAcceptedRefusedOrIgnored : Obligations.RouteBeginIsAcceptedRefusedOrIgnored := by
  unfold Obligations.RouteBeginIsAcceptedRefusedOrIgnored
  intro src route count s takes u begun
  have ret : u.ret = s.ret := s.hearing_ret src .console
  rw [exec_routeBegin_of_takesFrom takes]
  refine ⟨fun unnamed => congrArg _ (State.routeBegun_ignored u ?_), fun named counted => ?_⟩
  · exact unnamed.imp (congrArg BitVec.toNat) (congrArg BitVec.toNat)
  have named' : route.toNat ≠ 0 := BitVec.toNat_ne.1 named
  have counted' : count.toNat ≠ 0 := BitVec.toNat_ne.1 counted
  refine ⟨fun loading => congrArg _ ?_, fun unloaded => ⟨fun room => congrArg _ ?_, fun full => congrArg _ ?_⟩,
    fun going => congrArg _ ?_⟩
  · rw [← ret] at loading
    exact (State.routeBegun_accepted named' counted' (Retained.acceptsBegin_of_loading loading)).trans (if_pos loading)
  · rw [← ret] at unloaded room
    have accepts : u.ret.acceptsBegin = true := by
      rw [Retained.acceptsBegin_of_unloaded unloaded]
      exact decide_eq_true (Nat.lt_succ_of_le room)
    refine (State.routeBegun_accepted named' counted' accepts).trans (if_neg ?_)
    rcases unloaded with h | h <;> simp [h]
  · rw [← ret] at unloaded full
    refine State.routeBegun_refused named' counted' ?_
    rw [Retained.acceptsBegin_of_unloaded unloaded]
    exact decide_eq_false (Nat.not_lt.2 full)
  · rw [← ret] at going
    exact State.routeBegun_refused named' counted' (Retained.acceptsBegin_of_going going)

/-! ## ROUTE-ENTRY -/

/-- Settles O34: the six tests decide, and what is stored has the fields of the post whatever contact it meets. -/
theorem routeEntriesAreJudgedInOrder : Obligations.RouteEntriesAreJudgedInOrder := by
  unfold Obligations.RouteEntriesAreJudgedInOrder
  refine ⟨⟨fun src es s takes => ?_, fun s f => ?_⟩, fun r cs e => ⟨meetAmong_of_no_contact r, fun c found => ?_⟩⟩
  · exact congrArg Host.Outcome.next (s.hearAddressed_of_takesFrom src .console _ takes)
  · refine ⟨State.takeEntry_refused, State.takeEntry_duplicate, fun taken fit single => ?_⟩
    have stored := State.takeEntry_stored taken fit single
    have fields := s.entryToStore_eq f
    have index : (s.entryToStore f).index = f.index.toNat := congrArg RouteEntry.index fields
    rw [stored]
    refine ⟨s.entryToStore f, ?_, ?_⟩
    · rw [← index]
      exact s.ret.entryAt_storeEntry_same _
    · refine ⟨congrArg RouteEntry.meter fields, index, congrArg RouteEntry.dr fields, congrArg RouteEntry.p fields,
        congrArg RouteEntry.a fields, congrArg RouteEntry.c fields, congrArg RouteEntry.b fields,
        congrArg RouteEntry.kr fields, congrArg RouteEntry.hint fields, congrArg RouteEntry.watch fields,
        fun loading => ?_, s.entryToStore_running f, fun i other => ?_, rfl, rfl⟩
      · rw [State.entryToStore_loading f loading]
        exact ⟨rfl, rfl, rfl, rfl⟩
      · exact s.ret.entryAt_storeEntry_other _ (index ▸ other)
  · exact ⟨meetAmong_of_unsettled r found, fun k ceded => meetAmong_of_ceded r found ceded,
      fun q x f held record body => meetAmong_of_held r found held record body⟩

/-! ## ROUTE-GO -/

/-- The missing indices are those at which no entry stands (R133). -/
theorem Retained.missing_eq (r : Retained) :
    r.missing = (List.range r.clampedCount).filter fun i => r.entries.all fun e => e.index != i := by
  refine congrArg (fun p => (List.range r.clampedCount).filter p) (funext fun i => Bool.eq_iff_iff.2 ?_)
  rw [Option.isNone_iff_eq_none, Retained.entryAt_eq_none_iff]
  simp

/-- Entries keep their places when a route starts (R132, R133). -/
theorem Retained.missing_startRoute (r : Retained) (cs : List Contact) : (r.startRoute cs).missing = r.missing := by
  have index (e : RouteEntry) : (meetAmong r cs e).index = e.index := ((keepsEntry_meetAmong r cs).fields e).1
  simp only [Retained.missing_eq, Retained.startRoute, List.all_map, Function.comp_def, index]

theorem State.offerGap_of_complete {s : State} (src : Nat) (h : s.ret.missing = []) : s.offerGap src = s := by
  rw [State.offerGap, h]
  rfl

theorem State.offerGap_of_missing {s : State} (src : Nat) (h : s.ret.missing ≠ []) :
    s.offerGap src = s.offer
      { mask := maskOf src
        body := .routeGap s.ret.routeNumber s.ret.missing.length (s.ret.missing.take gapLimit) } := by
  rw [State.offerGap, if_neg (by simpa using h)]

/-- Settles O35: the gaps told of after the start are those that the load has left. -/
theorem routeGoStartsLoadedRoute : Obligations.RouteGoStartsLoadedRoute := by
  unfold Obligations.RouteGoStartsLoadedRoute
  intro src s takes u missing started
  have ret : u.ret = s.ret := s.hearing_ret src .console
  have goes : exec (.routeGo src) s = .next (u.routeGone src.toNat) :=
    congrArg Host.Outcome.next (s.hearAddressed_of_takesFrom src .console _ takes)
  have gaps : started.ret.missing = missing :=
    (u.ret.missing_startRoute u.main.contacts).trans (ret ▸ u.ret.missing_eq)
  have number : started.ret.routeNumber = s.ret.routeNumber := by
    rw [← ret]
    rfl
  rw [goes]
  refine ⟨fun other => congrArg _ (if_neg (ret ▸ other)), fun loading => ?_⟩
  have going : u.routeGone src.toNat = (started.offerGap src.toNat).offerStatus := if_pos (ret ▸ loading)
  rw [going]
  refine ⟨fun complete => ?_, fun gap => ?_⟩
  · rw [State.offerGap_of_complete _ (gaps.trans complete)]
  · rw [State.offerGap_of_missing _ (gaps ▸ gap), gaps, number]
    rfl

end Sys2Proof.Machine
end

section
/-! # WALK_STEP: one entry missed, and the last step (R138 to R142, R155) -/

namespace Sys2Proof.Machine

/-- Settles O37: the step is the visit of the walk's index, which the entry there and the responsibility for it
decide. -/
theorem walkStepMissesOneEntry : Obligations.WalkStepMissesOneEntry := by
  unfold Obligations.WalkStepMissesOneEntry
  refine ⟨fun s e => ⟨fun h => s.responsible_of_hint, s.responsible_of_no_hint⟩, fun s e on closing more => ?_⟩
  intro onward missed
  have steps : exec .walkStep s = .next
      { s.begin.visitIndex s.main.walk with main := { s.main with walk := s.main.walk + 1 } } :=
    congrArg Host.Outcome.next (State.stepWalk_onward (s := s.begin) on closing more)
  refine ⟨fun empty => ?_, fun found => ⟨fun passed => ?_, fun due => ?_⟩⟩
  · rw [steps, State.visitIndex_empty (s := s.begin) empty]
    rfl
  · rw [steps, State.visitIndex_passed (s := s.begin) found (e.countsDue_eq_false_iff.2 passed)]
    rfl
  · have due' := e.countsDue_iff.2 due
    refine ⟨fun other => ?_, fun ours => ⟨fun room => ?_, fun full => ?_⟩⟩
    · rw [steps, State.visitIndex_elsewhere (s := s.begin) found due' other]
      rfl
    · rw [steps, State.visitIndex_listed (s := s.begin) found due' ours room]
      rfl
    · rw [steps, State.visitIndex_unlisted (s := s.begin) found due' ours full]
      rfl

/-- Settles O38: the visit of the last index is the one of O37, and the end of the route is one more write. -/
theorem lastWalkStepEndsRoute : Obligations.LastWalkStepEndsRoute := by
  unfold Obligations.LastWalkStepEndsRoute
  intro s on closing last v count
  have steps : exec .walkStep s = .next (v.write Retained.endRoute).offerStatus :=
    congrArg Host.Outcome.next (State.stepWalk_last (s := s.begin) on closing last)
  refine ⟨fun unnumbered => ?_, fun numbered => ?_⟩
  · rw [steps, State.write, Retained.endRoute_unnumbered unnumbered]
    rfl
  · rw [steps, State.write, Retained.endRoute_numbered numbered]
    rfl

end Sys2Proof.Machine
end

section
/-! # An idle step: one millisecond of the clocks and the timers (R127, R183, R184) -/

namespace Sys2Proof.Machine

theorem routeClockRuns_eq_false_iff (x : RouteState) : routeClockRuns x = false ↔ x = .noRoute ∨ x = .loading := by
  cases x <;> simp [routeClockRuns]

/-- The route clock and its phase stand in NO-ROUTE and LOADING (R127); the station clock always runs (R184). -/
theorem Retained.passTime_eq (r : Retained) (n : Nat) :
    r.passTime n = { r with
      stationClock := min (r.stationClock + n) stationClockMax
      routeClock :=
        if r.routeState = .noRoute ∨ r.routeState = .loading then r.routeClock
        else min (r.routeClock + (r.routePhase + n) / 1000) routeClockMax
      routePhase :=
        if r.routeState = .noRoute ∨ r.routeState = .loading then r.routePhase
        else (r.routePhase + n) % 1000 } := by
  unfold Retained.passTime
  split
  · rename_i runs
    have moves : ¬ (r.routeState = .noRoute ∨ r.routeState = .loading) := by
      rw [← routeClockRuns_eq_false_iff, runs]
      exact Bool.noConfusion
    rw [if_neg moves, if_neg moves]
  · rename_i stands
    have still := (routeClockRuns_eq_false_iff r.routeState).1 (Bool.eq_false_iff.2 stands)
    rw [if_pos still, if_pos still]

/-- Settles O2: the clocks of the retained domain stand or run by the route state, and the timers as they stand. -/
theorem idleStepPassesOneMillisecond : Obligations.IdleStepPassesOneMillisecond := by
  unfold Obligations.IdleStepPassesOneMillisecond
  intro s idle
  have idles : step s = .next (s.begin.passTime 1) := by
    rw [step, idle]
    rfl
  rw [idles, State.passTime, State.begin_ret, Retained.passTime_eq]
  rfl

end Sys2Proof.Machine
end

section
/-! # Every step keeps the capture log in order and in its room (R150, R151, R153, R159) -/

namespace Sys2Proof.Machine

/-! ## The order and the counter -/

namespace Retained.LogInOrder

variable {r r' : Retained}

theorem of_log (h : r.LogInOrder) (log : r'.log = r.log) (counter : r'.nextSeq = r.nextSeq) : r'.LogInOrder := by
  unfold Retained.LogInOrder
  rwa [log, counter]

theorem updRecord (q : Nat) {f : Record → Record} (h : r.LogInOrder) (keeps : ∀ x, (f x).seq = x.seq) :
    (r.updRecord q f).LogInOrder :=
  h.map _ fun x => by
    split
    · exact keeps x
    · rfl

/-- A new record takes the counter's value, which is above every SEQUENCE in the log (R150, R151). -/
theorem append (route : Nat) (o : OpenState) (b : RecordBody) (h : r.LogInOrder) (number : r.nextSeq ≤ seqMax) :
    (r.append route o b).LogInOrder := by
  obtain ⟨rising, below, low, -⟩ := h
  refine ⟨?_, fun x hx => ?_, Nat.le_succ_of_le low, Nat.succ_le_succ number⟩
  · rw [Retained.append_log, List.map_append, List.pairwise_append]
    refine ⟨rising, List.pairwise_singleton _ _, fun q hq n hn => ?_⟩
    obtain ⟨x, hx, rfl⟩ := List.mem_map.1 hq
    obtain rfl := List.mem_singleton.1 hn
    exact (below x hx).2
  · rcases List.mem_append.1 (r.append_log route o b ▸ hx) with old | new
    · obtain ⟨positive, under⟩ := below x old
      exact ⟨positive, Nat.lt_succ_of_lt under⟩
    · obtain rfl := List.mem_singleton.1 new
      exact ⟨low, Nat.lt_succ_self _⟩

/-- Records leave the log and the rest keep their order. -/
theorem filter (p : Record → Bool) (h : r.LogInOrder) : ({ r with log := r.log.filter p } : Retained).LogInOrder := by
  obtain ⟨rising, below, counter⟩ := h
  exact ⟨rising.sublist (List.filter_sublist.map _), fun x hx => below x (List.mem_filter.1 hx).1, counter⟩

theorem commit (batch : List Nat) (v : Nat) (h : r.LogInOrder) : (r.commit batch v).LogInOrder :=
  (h.filter _).map _ fun x => by split <;> rfl

theorem endRoute (h : r.LogInOrder) : r.endRoute.LogInOrder := by
  rcases Nat.lt_or_ge seqMax r.nextSeq with last | number
  · rw [Retained.endRoute_unnumbered last]
    exact h.of_log rfl rfl
  · rw [Retained.endRoute_numbered number]
    exact (h.append _ _ _ number).of_log rfl rfl

theorem cleared (valid : Bool) : (clearedRetained valid).LogInOrder :=
  ⟨.nil, fun _ hx => absurd hx List.not_mem_nil, Nat.le_refl _, Nat.le_add_left 1 seqMax⟩

end Retained.LogInOrder

/-! ## The reservation and the occupancy -/

namespace Retained.LogHasRoom

variable {r r' : Retained}

/-- The log grows no longer, and the reservation stands as the route does. -/
theorem of_shorter (h : r.LogHasRoom) (length : r'.log.length ≤ r.log.length) (reserved : r'.reserved = r.reserved)
    (route : r'.routeState.inProgress = r.routeState.inProgress) : r'.LogHasRoom := by
  obtain ⟨bound, room⟩ := h
  unfold Retained.LogHasRoom
  rw [reserved, route]
  exact ⟨bound, (Nat.add_le_add_right length _).trans room⟩

theorem append (route : Nat) (o : OpenState) (b : RecordBody) (h : r.LogHasRoom)
    (room : r.log.length + r.reserved.toNat < logLimit) : (r.append route o b).LogHasRoom := by
  obtain ⟨bound, -⟩ := h
  refine ⟨bound, ?_⟩
  rw [Retained.append_log, List.length_append, List.length_singleton, Nat.add_right_comm]
  exact room

/-- An accepted ROUTE-BEGIN takes the reservation in a log that is not full, or finds it taken in LOADING (R128). -/
theorem beginRoute (route count : Nat) (h : r.LogHasRoom) (accepted : r.acceptsBegin = true) :
    (r.beginRoute route count).LogHasRoom := by
  obtain ⟨bound, room⟩ := h
  refine ⟨rfl, ?_⟩
  show r.log.length + 1 ≤ logLimit
  cases state : r.routeState with
  | noRoute | closed =>
    rw [Retained.acceptsBegin_of_unloaded (by simp [state])] at accepted
    exact of_decide_eq_true accepted
  | loading =>
    rw [bound, state] at room
    exact room
  | running | closing =>
    rw [Retained.acceptsBegin_of_going (by simp [state])] at accepted
    exact Bool.noConfusion accepted

/-- The ROUTE-END record takes the reserved slot (R142, R153, R155). -/
theorem endRoute (h : r.LogHasRoom) (closing : r.routeState = .closing) : r.endRoute.LogHasRoom := by
  obtain ⟨bound, room⟩ := h
  rw [bound, closing] at room
  rcases Nat.lt_or_ge seqMax r.nextSeq with last | number
  · rw [Retained.endRoute_unnumbered last]
    exact ⟨rfl, (Nat.le_succ _).trans room⟩
  · rw [Retained.endRoute_numbered number]
    refine ⟨rfl, ?_⟩
    show (r.append _ _ _).log.length ≤ logLimit
    rw [Retained.append_log, List.length_append]
    exact room

end Retained.LogHasRoom

/-! ## The promise -/

namespace Retained.LogSound

variable {r : Retained}

theorem updRecord (q : Nat) {f : Record → Record} (h : r.LogSound) (keeps : ∀ x, (f x).seq = x.seq) :
    (r.updRecord q f).LogSound := by
  obtain ⟨order, room⟩ := h
  exact ⟨order.updRecord q keeps, room.of_shorter (r.updRecord_length q f).le rfl rfl⟩

/-- A record joins a log that has room for it, beside the place and the number reserved (R154). -/
theorem append (route : Nat) (o : OpenState) (b : RecordBody) (h : r.LogSound) (room : r.room = true) :
    (r.append route o b).LogSound := by
  obtain ⟨order, reserved⟩ := h
  obtain ⟨place, number⟩ : r.log.length + r.reserved.toNat < logLimit ∧ r.nextSeq + r.reserved.toNat ≤ seqMax := by
    simpa [Retained.room] using room
  exact ⟨order.append route o b (Nat.le_of_add_right_le number), reserved.append route o b place⟩

end Retained.LogSound

/-- A sound log is a promise about the log alone: it asks nothing of the contacts. -/
theorem logSound_promise : LogPromise (fun _ => True) Retained.LogSound where
  same := fun _ _ _ _ => trivial
  fresh := fun _ _ _ _ _ => trivial
  recorded := fun _ _ _ _ => trivial
  aside := fun ⟨order, room⟩ log counter reserved route =>
    ⟨order.of_log log counter, room.of_shorter (congrArg List.length log).le reserved route⟩
  changed := fun q _ keeps h => h.updRecord q fun x => (keeps x).1
  followed := fun {r} {c} q _ h => h.updRecord q fun x => congrArg Prod.fst (Record.follow_standing r c x)
  opened := fun _ room h => h.append _ _ _ room
  missed := fun _ room h => h.append _ _ _ room
  begun := fun route count accepted ⟨order, room⟩ => ⟨order.of_log rfl rfl, room.beginRoute route count accepted⟩
  ended := fun closing ⟨order, room⟩ => ⟨order.endRoute, room.endRoute closing⟩
  committed := fun batch v ⟨order, room⟩ =>
    ⟨order.commit batch v, room.of_shorter ((List.length_map _).le.trans (List.length_filter_le _ _)) rfl rfl⟩
  cleared := fun valid => ⟨.cleared valid, rfl, Nat.zero_le _⟩

/-- Settles O52: every write of the model keeps the promise, so that none that a loss of supply takes back breaks it. -/
theorem logOrderAndRoomAreKept : Obligations.LogOrderAndRoomAreKept := by
  unfold Obligations.LogOrderAndRoomAreKept
  intro s t sound next
  exact (logSound_promise.step ⟨fun _ _ => trivial, sound⟩ next).retained

end Sys2Proof.Machine
end

section
/-! # START_UP: the cause of the start, the visit of the log, and the main domain (R162, R191 to R196) -/

namespace Sys2Proof.Machine

/-! ## The retained domain -/

/-- Restoring the records that change by it restores every record of the log (R162). -/
theorem State.visitLog_ret (s : State) :
    s.visitLog.ret = { s.ret with log := s.ret.log.map Record.restore } := by
  obtain ⟨-, -, -, -, ret⟩ := State.foldl_write_frame
    (fun (x : Record) r => r.updRecord x.seq Record.restore) (s.ret.log.filter fun x => x.restore != x) s
  rw [State.visitLog, ret, ← List.foldl_map (f := Record.seq) (g := fun r q => Retained.updRecord r q Record.restore),
    Retained.foldl_updRecord Record.restore (fun _ => rfl) Record.restore_restore]
  refine congrArg (fun l => ({ s.ret with log := l } : Retained)) (List.map_congr_left fun x hx => ?_)
  split
  · rfl
  · rename_i unvisited
    by_contra changes
    exact unvisited (List.mem_map_of_mem (List.mem_filter.2 ⟨hx, bne_iff_ne.2 (Ne.symm changes)⟩))

/-- INTERRUPTED is set on an OPEN record and kept on a CLOSED one; only a READ record has it (R149, R162). -/
theorem Record.restore_eq (x : Record) :
    x.restore = { x with
      openState := .closed, mark := .unsent
      alert := if x.alert = .slotted then .pending else x.alert
      body := match x.body with
        | .read f => .read { f with marks := { f.marks with
            interrupted := f.marks.interrupted || x.openState == .opened } }
        | b => b } := by
  obtain ⟨q, route, o, mark, alert, body⟩ := x
  cases body with
  | read f =>
    cases o with
    | opened => simp [Record.restore]
    | closed =>
      have still : (OpenState.closed == OpenState.opened) = false := rfl
      simp [Record.restore, still]
  | missed f | routeEnd f => cases o <;> rfl

theorem State.decideCause_restored {s : State} (valid : s.ret.retentionValid = true) : s.decideCause = s.visitLog :=
  if_pos valid

theorem State.decideCause_cold {s : State} (valid : s.ret.retentionValid = false) :
    s.decideCause = s.write fun _ => clearedRetained true :=
  if_neg (Bool.eq_false_iff.1 valid)

/-- The decision of the cause reaches the retained domain and the journal alone. -/
theorem State.decideCause_frame (s : State) :
    s.decideCause.backup = s.backup ∧ s.decideCause.pending = s.pending := by
  unfold State.decideCause
  split
  · obtain ⟨-, -, -, pending, -⟩ := State.foldl_write_frame
      (fun (x : Record) r => r.updRecord x.seq Record.restore) (s.ret.log.filter fun x => x.restore != x) s
    exact ⟨State.foldl_write_backup _ _ s, pending⟩
  · exact ⟨rfl, rfl⟩

/-! ## The main domain -/

/-- The peer table of a start, by index (R95). -/
theorem freshPeers_eq (strap ms : Nat) :
    freshPeers strap ms = (List.range 15).map fun i =>
      { station := i + 1, presence := .absent, role := none
        silence := if i + 1 = strap then none else some ms } := rfl

/-- A start is in SAG below the threshold plus the hysteresis (R182, R196). -/
theorem supplyAtStart_eq (c : Settings) (mv : Nat) :
    supplyAtStart c mv = if mv < 8000 + 500 * c.supplyLevel + 400 then .sag else .normal := by
  unfold supplyAtStart thresholdMv hysteresisMv
  simp only [← Nat.not_lt, ite_not]

theorem supplyAtStart_sag (c : Settings) (mv : Nat) :
    (supplyAtStart c mv == .sag) = decide (mv < 8000 + 500 * c.supplyLevel + 400) := by
  rw [supplyAtStart_eq]
  split <;> simp [*]

/-- The end of start-up: the main domain of R196, and one STATUS offered to its empty queue (R90). -/
theorem State.started_eq (s : State) (strap : Nat) (block : List Byte) (pins : Pins) :
    s.started strap block pins = { s.decideCause with
      powered := true, pins := pins
      main := { startMain strap (readConfig block) pins s.ret.startCause with
        queue := [{ mask := maskAll, body := .status }]
        statusTimer := some ((readConfig block).settings.statusInterval * 1000) } } :=
  State.offerStatus_of_empty _ rfl rfl

/-- Settles O47: the cause is decided on the state before the start, and the main domain takes nothing from it. -/
theorem startUpIsColdOrRestored : Obligations.StartUpIsColdOrRestored := by
  unfold Obligations.StartUpIsColdOrRestored
  intro straps block ign mv s cfg sag port
  obtain ⟨backup, pending⟩ := s.begin.decideCause_frame
  refine ⟨_, congrArg Host.Outcome.next (State.started_eq _ _ _ _), rfl, backup, ?_, pending, fun cold => ?_,
    fun restored _ => ?_, ?_⟩
  · rw [LinkLine.cut_eq]
  · rw [State.decideCause_cold (s := s.begin) cold]
    exact ⟨rfl, rfl⟩
  · rw [State.decideCause_restored (s := s.begin) restored]
    show s.begin.visitLog.ret = _
    rw [State.visitLog_ret]
    exact congrArg (fun l => ({ s.ret with log := l } : Retained)) (List.map_congr_left fun x _ => x.restore_eq)
  · simp only [startMain, freshPeers_eq, supplyAtStart_sag]
    rw [supplyAtStart_eq]
    rfl

end Sys2Proof.Machine
end

section
/-! # BATCH beside the marks of the log: what each write leaves of R165, R168 and R173 -/

namespace Sys2Proof.Machine

/-- `f` leaves SEQUENCE and DRAIN-MARK of a record as they are, and opens no CLOSED record. -/
def KeepsMark (f : Record → Record) : Prop :=
  ∀ x, (f x).seq = x.seq ∧ (f x).mark = x.mark ∧ (x.isOpen = false → (f x).isOpen = false)

theorem keepsMark_close : KeepsMark Record.close := fun _ => ⟨rfl, rfl, fun _ => rfl⟩

theorem keepsMark_withAlert (a : AlertState) : KeepsMark (Record.withAlert a) := fun _ => ⟨rfl, rfl, id⟩

theorem keepsMark_follow (r : Retained) (c : Contact) : KeepsMark (Record.follow r c) := by
  rintro ⟨q, route, o, mark, alert, body⟩
  cases body <;> exact ⟨rfl, rfl, id⟩

theorem keepsMark_followDuplicate (r : Retained) (c : Contact) : KeepsMark (Record.followDuplicate r c) := by
  rintro ⟨q, route, o, mark, alert, body⟩
  cases body <;> exact ⟨rfl, rfl, id⟩

theorem keepsMark_markDouble : KeepsMark Record.markDouble := by
  rintro ⟨q, route, o, mark, alert, body⟩
  cases body <;> exact ⟨rfl, rfl, id⟩

theorem KeepsMark.ite {f : Record → Record} (hf : KeepsMark f) (c : Record → Prop) [DecidablePred c] :
    KeepsMark fun x => if c x then f x else x := by
  intro x
  dsimp only
  split
  · exact hf x
  · exact ⟨rfl, rfl, id⟩

/-- A log with room for a record has a number for it (R154). -/
theorem Retained.number_of_room {r : Retained} (room : r.room = true) : r.nextSeq ≤ seqMax := by
  obtain ⟨-, number⟩ : r.log.length + r.reserved.toNat < logLimit ∧ r.nextSeq + r.reserved.toNat ≤ seqMax := by
    simpa [Retained.room] using room
  exact Nat.le_of_add_right_le number

theorem Retained.closed_of_chosen {r : Retained} {x : Record} (h : x ∈ r.chosen) : x.openState = .closed := by
  obtain ⟨-, chosen⟩ := List.mem_filter.1 (List.mem_of_mem_take h)
  obtain ⟨closed, -⟩ : x.openState = .closed ∧ x.mark = .unsent := by simpa using chosen
  exact closed

/-- In a log in order, the SENT-IN-BATCH records are those of `batch` and are CLOSED; `batch` rises and holds at most
sixteen (R165, R168). -/
structure Retained.MarksBatch (r : Retained) (batch : List Nat) : Prop where
  order : r.LogInOrder
  rising : batch.Pairwise (· < ·)
  short : batch.length ≤ batchLimit
  logged : ∀ q ∈ batch, ∃ x ∈ r.log, x.seq = q
  marked : ∀ x ∈ r.log, x.mark = .sentInBatch ↔ x.seq ∈ batch
  closed : ∀ x ∈ r.log, x.mark = .sentInBatch → x.isOpen = false

namespace Retained.MarksBatch

variable {r r' : Retained} {batch : List Nat}

/-- A write that leaves the log and its counter alone. -/
theorem of_log (h : r.MarksBatch batch) (log : r'.log = r.log) (counter : r'.nextSeq = r.nextSeq) :
    r'.MarksBatch batch where
  order := h.order.of_log log counter
  rising := h.rising
  short := h.short
  logged := log ▸ h.logged
  marked := log ▸ h.marked
  closed := log ▸ h.closed

/-- A pass over the log that leaves every SEQUENCE and DRAIN-MARK, and opens no record. -/
theorem map {f : Record → Record} (hf : KeepsMark f) (h : r.MarksBatch batch) :
    ({ r with log := r.log.map f } : Retained).MarksBatch batch where
  order := h.order.map f fun x => (hf x).1
  rising := h.rising
  short := h.short
  logged := fun q hq => by
    obtain ⟨x, hx, rfl⟩ := h.logged q hq
    exact ⟨f x, List.mem_map_of_mem hx, (hf x).1⟩
  marked := List.forall_mem_map.2 fun x hx => by
    obtain ⟨seq, mark, -⟩ := hf x
    rw [seq, mark]
    exact h.marked x hx
  closed := List.forall_mem_map.2 fun x hx sent => by
    obtain ⟨-, mark, closes⟩ := hf x
    exact closes (h.closed x hx (mark ▸ sent))

theorem updRecord (q : Nat) {f : Record → Record} (hf : KeepsMark f) (h : r.MarksBatch batch) :
    (r.updRecord q f).MarksBatch batch :=
  h.map (hf.ite fun x => x.seq = q)

/-- A new record is UNSENT, and its SEQUENCE is above those in BATCH (R151). -/
theorem append (route : Nat) (o : OpenState) (b : RecordBody) (number : r.nextSeq ≤ seqMax) (h : r.MarksBatch batch) :
    (r.append route o b).MarksBatch batch where
  order := h.order.append route o b number
  rising := h.rising
  short := h.short
  logged := fun q hq => (h.logged q hq).imp fun x ⟨hx, seq⟩ => ⟨List.mem_append_left _ hx, seq⟩
  marked := fun x hx => by
    rcases List.mem_append.1 (r.append_log route o b ▸ hx) with old | new
    · exact h.marked x old
    · obtain rfl := List.mem_singleton.1 new
      refine iff_of_false DrainMark.noConfusion fun member => ?_
      obtain ⟨-, below, -⟩ := h.order
      obtain ⟨y, hy, seq⟩ := h.logged _ member
      exact Nat.ne_of_lt (below y hy).2 seq
  closed := fun x hx sent => by
    rcases List.mem_append.1 (r.append_log route o b ▸ hx) with old | new
    · exact h.closed x old sent
    · obtain rfl := List.mem_singleton.1 new
      exact DrainMark.noConfusion sent

/-- A log in order without a SENT-IN-BATCH record goes with an empty BATCH. -/
theorem of_unsent (order : r.LogInOrder) (unsent : ∀ x ∈ r.log, x.mark = .unsent) : r.MarksBatch [] where
  order := order
  rising := .nil
  short := Nat.zero_le _
  logged := fun _ hq => absurd hq List.not_mem_nil
  marked := fun x hx => by simp [unsent x hx]
  closed := fun x hx => by simp [unsent x hx]

/-- A record outside BATCH is UNSENT. -/
theorem unsent (h : r.MarksBatch batch) {x : Record} (hx : x ∈ r.log) (outside : x.seq ∉ batch) : x.mark = .unsent := by
  cases mark : x.mark
  · rfl
  · exact absurd ((h.marked x hx).1 mark) outside

/-- A pass over the log that returns the records of BATCH to UNSENT (R166). -/
theorem returned {f : Record → Record} (h : r.MarksBatch batch) (keeps : ∀ x, (f x).seq = x.seq)
    (mark : ∀ x, (f x).mark = if x.seq ∈ batch then .unsent else x.mark) :
    ({ r with log := r.log.map f } : Retained).MarksBatch [] := by
  refine of_unsent (h.order.map f keeps) (List.forall_mem_map.2 fun x hx => ?_)
  rw [mark]
  split
  · rfl
  · exact h.unsent hx ‹_›

/-- A COMMIT releases members of BATCH and returns the others to UNSENT (R173). -/
theorem commit (v : Nat) (h : r.MarksBatch batch) : (r.commit batch v).MarksBatch [] := by
  refine of_unsent (h.order.commit batch v) (List.forall_mem_map.2 fun x hx => ?_)
  split
  · rfl
  · rename_i outside
    exact h.unsent (List.mem_filter.1 hx).1 (by simpa using outside)

/-- The records a batch takes are CLOSED and rise, and marking them makes them the SENT-IN-BATCH ones (R168). -/
theorem formed (h : r.MarksBatch []) : r.marked.MarksBatch (r.chosen.map Record.seq) := by
  have taken : r.chosen.Sublist r.log := (List.take_sublist _ _).trans List.filter_sublist
  obtain ⟨rising, -⟩ := id h.order
  refine ⟨h.order.map _ fun x => ?_, rising.sublist (taken.map _), ?_, fun q hq => ?_, ?_, ?_⟩
  · split <;> rfl
  · exact (List.length_map _).trans_le (List.length_take_le _ _)
  · obtain ⟨x, hx, rfl⟩ := List.mem_map.1 hq
    refine ⟨_, List.mem_map_of_mem (taken.subset hx), ?_⟩
    rw [if_pos hx]
  · refine List.forall_mem_map.2 fun x hx => ?_
    split
    · exact iff_of_true rfl (List.mem_map.2 ⟨x, ‹_›, rfl⟩)
    · rename_i left
      refine iff_of_false (by simp [h.unsent hx List.not_mem_nil]) fun member => left ?_
      obtain ⟨y, hy, seq⟩ := List.mem_map.1 member
      rwa [← h.order.unique (taken.subset hy) hx seq]
  · refine List.forall_mem_map.2 fun x hx => ?_
    split
    · rename_i chosen
      exact fun _ => by simp [Record.isOpen, Retained.closed_of_chosen chosen]
    · exact fun sent => by simp [h.unsent hx List.not_mem_nil] at sent

/-! ## The writes of the contacts and of the route -/

theorem updRunningEntry (m : MeterId) (f : RouteEntry → RouteEntry) (h : r.MarksBatch batch) :
    (r.updRunningEntry m f).MarksBatch batch := by
  rw [Retained.updRunningEntry_frame]
  exact h.of_log rfl rfl

theorem openRecord (c : Contact) (room : r.room = true) (h : r.MarksBatch batch) :
    (r.openRecord c).MarksBatch batch :=
  updRunningEntry _ _ (h.append _ _ _ (Retained.number_of_room room))

theorem updateRecord (c : Contact) (q : Nat) (h : r.MarksBatch batch) : (r.updateRecord c q).MarksBatch batch :=
  updRunningEntry _ _ (h.updRecord q (keepsMark_follow r c))

theorem markDouble (m : MeterId) (h : r.MarksBatch batch) : (r.markDouble m).MarksBatch batch := by
  unfold Retained.markDouble
  split
  · exact updRunningEntry _ _ (h.updRecord _ keepsMark_markDouble)
  · exact updRunningEntry _ _ h

theorem missHere (e : RouteEntry) (h : r.MarksBatch batch) : (r.missHere e).MarksBatch batch := by
  unfold Retained.missHere
  split
  · exact (h.append _ _ _ (Retained.number_of_room ‹_›)).of_log rfl rfl
  · exact h.of_log rfl rfl

theorem endRoute (h : r.MarksBatch batch) : r.endRoute.MarksBatch batch := by
  rcases Nat.lt_or_ge seqMax r.nextSeq with last | number
  · rw [Retained.endRoute_unnumbered last]
    exact h.of_log rfl rfl
  · rw [Retained.endRoute_numbered number]
    exact (h.append _ _ _ number).of_log rfl rfl

theorem passTime (n : Nat) (h : r.MarksBatch batch) : (r.passTime n).MarksBatch batch := by
  unfold Retained.passTime
  split <;> exact h.of_log rfl rfl

end Retained.MarksBatch

end Sys2Proof.Machine
end

section
/-! # Every step keeps the marks and BATCH together (R165, R168, R173)

Most operations leave the supply, the retained domain and BATCH as they are, and so what is kept of a state is, by
definition, kept of the state after them. -/

namespace Sys2Proof.Machine

/-- The marks of the log are those of BATCH, while the part is powered. -/
def State.MarksBatch (s : State) : Prop := s.powered = true → s.ret.MarksBatch s.main.drain.batch

theorem State.MarksBatch.batchMarksAgree {s : State} (h : s.MarksBatch) : s.BatchMarksAgree := by
  intro on
  obtain ⟨-, rising, short, logged, marked, closed⟩ := h on
  exact ⟨rising, short, logged, fun x hx => ⟨marked x hx, closed x hx⟩⟩

theorem State.marksBatch_of_sound {s : State} (order : s.ret.LogInOrder) (agree : s.BatchMarksAgree) :
    s.MarksBatch := by
  intro on
  obtain ⟨rising, short, logged, marks⟩ := agree on
  exact ⟨order, rising, short, logged, fun x hx => (marks x hx).1, fun x hx => (marks x hx).2⟩

/-- The engine's offer of its post leaves BATCH (R169). -/
theorem State.offerDrainPost_batch (s : State) : s.offerDrainPost.main.drain.batch = s.main.drain.batch := by
  unfold State.offerDrainPost
  split
  · rfl
  · split <;> rfl

namespace State.MarksBatch

variable {s t : State}

theorem aside (h : s.MarksBatch) (powered : t.powered = s.powered) (ret : t.ret = s.ret)
    (batch : t.main.drain.batch = s.main.drain.batch) : t.MarksBatch := by
  unfold State.MarksBatch
  rw [powered, ret, batch]
  exact h

/-- An operation that is carried out under a condition. -/
theorem ite {c : Prop} [Decidable c] (ht : t.MarksBatch) (hs : s.MarksBatch) : (if c then t else s).MarksBatch := by
  split
  · exact ht
  · exact hs

theorem write {f : Retained → Retained}
    (hf : s.ret.MarksBatch s.main.drain.batch → (f s.ret).MarksBatch s.main.drain.batch) (h : s.MarksBatch) :
    (s.write f).MarksBatch :=
  fun on => hf (h on)

theorem update (q : Nat) {f : Record → Record} (hf : KeepsMark f) (h : s.MarksBatch) :
    (s.write fun r => r.updRecord q f).MarksBatch :=
  h.write (Retained.MarksBatch.updRecord q hf)

/-! ## The shared operations -/

theorem passTime (n : Nat) (h : s.MarksBatch) : (s.passTime n).MarksBatch := by
  intro on
  obtain ⟨-, batch⟩ := s.passTime_drain n
  rw [batch, State.passTime_ret]
  split
  · exact (h on).passTime n
  · exact h on

theorem offer (p : Post) (h : s.MarksBatch) : (s.offer p).MarksBatch :=
  h.aside (s.offer_powered p) (s.offer_ret p) (by rw [State.offer_drain])

theorem offerStatus (h : s.MarksBatch) : s.offerStatus.MarksBatch := h.offer { mask := maskAll, body := .status }

theorem changeEntry (m : MeterId) (f : RouteEntry → RouteEntry) (h : s.MarksBatch) :
    (s.changeEntry m f).MarksBatch := by
  rcases s.changeEntry_cases m f with ⟨-, e⟩ | ⟨-, -, e⟩ <;> rw [e]
  · exact h
  · exact h.write fun k => k.of_log rfl rfl

theorem raise (q : Nat) (h : s.MarksBatch) : (s.raise q).MarksBatch := by
  rcases s.raise_cases q with e | e <;> rw [e]
  · exact h
  · exact h.update q (keepsMark_withAlert _)

theorem restartParkReturn (h : s.MarksBatch) : s.restartParkReturn.MarksBatch := ite h h

/-! ## The line, and posts heard -/

theorem lineSilent (quiet : Nat) (h : s.MarksBatch) : (s.lineSilent quiet).MarksBatch := by
  rw [State.lineSilent_eq]
  split <;> exact h

theorem lineActive (quiet : Nat) (h : s.MarksBatch) : (s.lineActive quiet).MarksBatch := by
  have silent := h.lineSilent quiet
  simp only [State.lineActive]
  split <;> exact silent

theorem postPasses (h : s.MarksBatch) : s.postPasses.MarksBatch := by
  cases attempt : s.inAttempt
  · rw [State.postPasses_eq s attempt]
    split <;> exact h
  · rwa [State.postPasses_inAttempt s attempt]

theorem lineStretch (p : Port) (bits : List Bool) (falls : Bool) (h : s.MarksBatch) :
    (s.lineStretch p bits falls).MarksBatch := by
  obtain ⟨x, e⟩ := s.lineStretch_frame p bits falls
  rw [e]
  cases p <;> exact h

/-- A post is acted on in a state with the drain engine of the state before. -/
theorem hear (src : Nat) (role : Option Role) {act : State → State} (h : s.MarksBatch)
    (acts : ∀ u, s.SameDrain u → u.MarksBatch → (act u).MarksBatch) : (s.hear src role act).MarksBatch := by
  rcases s.hear_cases src role act with ⟨-, e⟩ | ⟨-, -, -, e⟩ | ⟨r, -, -, -, -, e⟩ <;> rw [e]
  · exact h.postPasses
  · exact h
  · exact acts _ ⟨rfl, rfl, rfl⟩ h

theorem hearAddressed (src : Nat) (role : Role) {act : State → State} (h : s.MarksBatch)
    (acts : ∀ u, s.SameDrain u → u.MarksBatch → (act u).MarksBatch) : (s.hearAddressed src role act).MarksBatch :=
  h.hear src _ fun _ same hu => acts _ same.restarted hu.restartParkReturn

theorem hearQuery (src : Nat) (role : Role) {act : State → State} (h : s.MarksBatch)
    (acts : ∀ u, u.MarksBatch → (act u).MarksBatch) : (s.hearQuery src role act).MarksBatch := by
  refine h.hear src _ fun u _ hu => ?_
  split
  · exact hu
  · exact acts _ hu.restartParkReturn

/-! ## The contacts -/

theorem enterHeld (c : Contact) (room : s.ret.room = true) (h : s.MarksBatch) : (s.enterHeld c).MarksBatch := by
  rw [State.enterHeld_eq]
  refine raise _ ?_
  exact h.write (Retained.MarksBatch.openRecord _ room)

theorem attemptClaim (m : MeterId) (h : s.MarksBatch) : (s.attemptClaim m).MarksBatch := by
  rcases s.attemptClaim_cases m with e | ⟨c, -, -, ⟨-, e⟩ | ⟨room, ⟨k, -, e⟩ | ⟨-, -, e⟩ | ⟨-, -, e⟩⟩⟩ <;> rw [e]
  · exact h
  · exact h
  · exact h
  · exact h.enterHeld c room
  · rcases s.offerClaim_cases c with ⟨-, e⟩ | ⟨-, e⟩ <;> rw [e]
    · exact h.offer _
    · exact h

theorem removeContact (m : MeterId) (h : s.MarksBatch) : (s.removeContact m).MarksBatch := by
  rcases s.removeContact_cases m with ⟨-, e⟩ | ⟨c, -, ⟨q, -, e⟩ | ⟨-, e⟩ | ⟨-, e⟩⟩ <;> rw [e]
  · exact h
  · exact h.update q keepsMark_close
  · exact h
  · exact h

theorem finishIdle (m : MeterId) (h : s.MarksBatch) : (s.finishIdle m).MarksBatch := by
  unfold State.finishIdle
  split
  · exact h
  · split
    · exact h.removeContact m
    · exact h

theorem clearContacts (h : s.MarksBatch) : s.clearContacts.MarksBatch := by
  obtain ⟨main, ret, powered, -⟩ := s.clearContacts_frame
  intro on
  rw [main, ret]
  exact (h (powered ▸ on)).map (keepsMark_close.ite _)

theorem followRecord (c : Contact) (h : s.MarksBatch) : (s.followRecord c).MarksBatch := by
  unfold State.followRecord
  split
  · exact raise _ (h.write (Retained.MarksBatch.updateRecord c _))
  · exact h

theorem countedArrival (x : Arrival) (h : s.MarksBatch) : (s.countedArrival x).MarksBatch := by
  unfold State.countedArrival
  split
  · exact h
  · rename_i c _
    have recorded : (s.setContact (s.recordArrival c x)).MarksBatch := h
    have followed := recorded.followRecord (s.recordArrival c x)
    simp only [State.judgeEligibility]
    split
    · exact followed.attemptClaim _
    · split
      · exact attemptClaim _ followed
      · exact followed

theorem duplicateArrival (m : MeterId) (t q : Nat) (h : s.MarksBatch) : (s.duplicateArrival m t q).MarksBatch := by
  unfold State.duplicateArrival
  split
  · exact h
  · simp only
    split
    · exact h.write (Retained.MarksBatch.updRecord _ (keepsMark_followDuplicate _ _))
    · exact h

theorem ensureContact (b : Burst) (t : Nat) (on : Bool) (h : s.MarksBatch) : (s.ensureContact b t on).MarksBatch := by
  unfold State.ensureContact
  split
  · exact h
  · rw [State.evict_eq]
    exact h

theorem takeFrom (p : Port) (h : s.MarksBatch) : (s.takeFrom p).MarksBatch := by
  unfold State.takeFrom
  split
  · exact h
  · rename_i f rest _
    have counted : ((s.setPort p { s.main.port p with slots := rest }).countDisposition p
        (s.judge f).disposition).MarksBatch := by
      cases p <;> exact h
    simp only [State.handOver]
    split
    · exact countedArrival _ (counted.ensureContact _ _ _)
    · exact counted.duplicateArrival _ _ _
    · exact counted

/-- The expiry of a timer of a contact, where its effect keeps the binding. -/
theorem contactExpiry (m : MeterId) (timer : Contact → Timer) {act : State → Contact → State} (h : s.MarksBatch)
    (acts : ∀ u c, u.MarksBatch → (act u c).MarksBatch) : (s.contactExpiry m timer act).MarksBatch := by
  unfold State.contactExpiry
  split
  · exact h
  · split
    · exact h
    · exact acts _ _ (h.passTime _)

theorem idleExpired (c : Contact) (h : s.MarksBatch) : (s.idleExpired c).MarksBatch := ite h (h.removeContact _)

theorem settleExpired (c : Contact) (h : s.MarksBatch) : (s.settleExpired c).MarksBatch := by
  unfold State.settleExpired State.settleContact
  split
  · split
    · exact ((h.enterHeld c ‹_›).offer _).finishIdle _
    · exact finishIdle _ (changeEntry _ _ (h.offer (yieldPost c.meter)))
  · exact h

/-! ## Claims -/

theorem answerAsHolder (m : MeterId) (q : Nat) (c : Claim) (h : s.MarksBatch) :
    (s.answerAsHolder m q c).MarksBatch := by
  unfold State.answerAsHolder
  split
  · exact h.offer _
  · exact h.write (Retained.MarksBatch.markDouble m)

theorem cede (x : Contact) (k : Claim) (h : s.MarksBatch) : (s.cede x k).MarksBatch := changeEntry _ _ h

theorem claimAtEntry (m : MeterId) (c : Claim) (h : s.MarksBatch) : (s.claimAtEntry m c).MarksBatch := by
  unfold State.claimAtEntry
  split
  · exact h
  · split
    · exact h.answerAsHolder _ _ _
    · split <;> exact h.changeEntry _ _

theorem claimAtListening (x : Contact) (c : Claim) (h : s.MarksBatch) : (s.claimAtListening x c).MarksBatch :=
  ite (h.answerAsHolder _ _ _) (ite (h.cede x c) (h.changeEntry _ _))

theorem claimAtClaiming (x : Contact) (c : Claim) (h : s.MarksBatch) : (s.claimAtClaiming x c).MarksBatch :=
  ite ((h.cede x c).finishIdle _) ((h.offer _).changeEntry _ _)

theorem claimAtCeded (x : Contact) (k c : Claim) (h : s.MarksBatch) : (s.claimAtCeded x k c).MarksBatch :=
  ite (changeEntry _ _ h) h

theorem placeClaim (m : MeterId) (c : Claim) (h : s.MarksBatch) : (s.placeClaim m c).MarksBatch := by
  unfold State.placeClaim
  split
  · exact h
  · split
    · exact h.claimAtEntry m c
    · split
      · exact h.answerAsHolder _ _ _
      · exact h.claimAtListening _ c
      · exact h.claimAtClaiming _ c
      · exact h.claimAtCeded _ _ c

theorem placeYield (m : MeterId) (n : Nat) (h : s.MarksBatch) : (s.placeYield m n).MarksBatch := by
  have released (o : Option Contact) : (match o with
      | some x => if x.cededToClaiming n then s.setContact x.release else s
      | none => s).MarksBatch := by
    split
    · split <;> exact h
    · exact h
  simp only [State.placeYield]
  split
  · exact h
  · split
    · exact changeEntry _ _ (released _)
    · exact released _

theorem revertPeer (n : Nat) (h : s.MarksBatch) : (s.revertPeer n).MarksBatch := by
  simp only [State.revertPeer]
  split
  · exact write (fun k => k.of_log rfl rfl) h
  · exact h

/-! ## The drain engine -/

/-- A batch is formed where no record is SENT-IN-BATCH (R168). -/
theorem formBatch (h : s.powered = true → s.ret.MarksBatch []) : s.formBatch.MarksBatch := by
  intro on
  obtain ⟨powered, -⟩ := s.formBatch_frame
  have free := h (powered ▸ on)
  have batch : s.formBatch.main.drain.batch = s.ret.chosen.map Record.seq := by
    rw [State.formBatch_eq]
    split
    · rfl
    · rw [State.offerDrainPost_batch]
      rfl
  rw [batch, State.formBatch_ret free.order]
  exact free.formed

theorem clearBatch (h : s.MarksBatch) : s.clearBatch.MarksBatch := by
  intro on
  obtain ⟨powered, -⟩ := s.clearBatch_frame
  rw [State.clearBatch_main, State.clearBatch_ret]
  exact (h (powered ▸ on)).returned (fun x => by split <;> rfl) fun x => by split <;> rfl

theorem endDrain (h : s.MarksBatch) : s.endDrain.MarksBatch := ite h h.clearBatch

/-- An engine in IDLE has an empty BATCH, and one that is not clears it before the next is formed (R167). -/
theorem openDrain (src : Nat) (engine : s.main.drain.Sound) (h : s.MarksBatch) : (s.openDrain src).MarksBatch := by
  simp only [State.openDrain]
  split
  · rename_i resting
    obtain ⟨empty, -⟩ := engine
    obtain ⟨-, none⟩ := empty resting
    exact formBatch fun on => none ▸ h on
  · have cleared := h.clearBatch
    rw [State.MarksBatch, State.clearBatch_main] at cleared
    exact formBatch cleared

theorem closeDrain (src : Nat) (h : s.MarksBatch) : (s.closeDrain src).MarksBatch := ite h.endDrain h

theorem commitDrain (src v : Nat) (h : s.MarksBatch) : (s.commitDrain src v).MarksBatch := by
  by_cases awaited : s.main.drain.state = .awaitCommit ∧ s.main.drain.dock = some src
  · obtain ⟨state, dock⟩ := awaited
    have frame := s.committed_frame v
    have powered : (s.committed v).powered = s.powered := by rw [frame]
    have ret : (s.committed v).ret = s.ret.commit s.main.drain.batch v := by rw [frame]
    rw [State.commitDrain_of_awaited v state dock]
    refine formBatch fun on => ?_
    rw [State.setDrain_ret, ret]
    exact (h (powered ▸ on)).commit v
  · rwa [State.commitDrain, if_neg awaited]

theorem offerDrainPost (h : s.MarksBatch) : s.offerDrainPost.MarksBatch := by
  obtain ⟨ret, powered, -⟩ := s.offerDrainPost_frame
  exact h.aside powered ret s.offerDrainPost_batch

theorem clearedPostEnded (h : s.MarksBatch) : s.clearedPostEnded.MarksBatch :=
  ite (offerDrainPost h) h

/-! ## The transmitter and the alert unit -/

theorem attemptDue (quiet : Nat) (h : s.MarksBatch) : (s.attemptDue quiet).MarksBatch := by
  unfold State.attemptDue
  split
  · split <;> exact h
  · split
    · exact h
    · split
      · exact h
      · rename_i p rest _
        refine h.aside rfl rfl ?_
        rw [State.beginAttempt_main, State.takeCurrent_main]
        split <;> rfl

theorem attemptAfter (quiet : Nat) (h : s.MarksBatch) : (s.attemptAfter quiet).MarksBatch :=
  ite h (ite ((h.lineSilent quiet).attemptDue quiet) (h.lineSilent quiet))

theorem tellSent (c : Current) (h : s.MarksBatch) : (s.tellSent c).MarksBatch := by
  unfold State.tellSent
  split
  · exact h
  · split
    · exact h.clearedPostEnded
    · exact offerDrainPost h
  · split
    · exact h.clearedPostEnded
    · unfold State.batchEndTransmitted
      split <;> exact h
  · exact h

theorem attemptSent (h : s.MarksBatch) : s.attemptSent.MarksBatch := by
  unfold State.attemptSent
  split
  · exact h
  · split
    · exact tellSent _ h
    · exact h

theorem attemptFailed (h : s.MarksBatch) : s.attemptFailed.MarksBatch := by
  unfold State.attemptFailed
  split
  · exact h
  · split
    · exact h
    · split
      · split
        · exact clearedPostEnded h
        · exact h
      · split
        · split
          · exact endDrain h
          · exact h
        · exact h

theorem promote (h : s.MarksBatch) : s.promote.MarksBatch := by
  unfold State.promote
  split
  · exact h
  · split
    · exact h.update _ (keepsMark_withAlert _)
    · exact h

theorem ackAlert (slot : Byte) (q : Nat) (h : s.MarksBatch) : (s.ackAlert slot q).MarksBatch := by
  unfold State.ackAlert
  split
  · exact h
  · split
    · exact h.update q (keepsMark_withAlert _)
    · exact h

/-! ## The route -/

theorem routeBegun (route count : Nat) (h : s.MarksBatch) : (s.routeBegun route count).MarksBatch := by
  have begun : (s.write (Retained.beginRoute route count)).MarksBatch := h.write fun k => k.of_log rfl rfl
  exact ite h (ite (ite begun begun.offerStatus) h)

theorem takeEntries (fs : List EntryFields) (h : s.MarksBatch) : (s.takeEntries fs).MarksBatch := by
  have one {u : State} (f : EntryFields) (hu : u.MarksBatch) : (u.takeEntry f).MarksBatch := by
    unfold State.takeEntry
    split
    · exact hu.write fun k => k.of_log rfl rfl
    · exact hu
    · exact hu
  unfold State.takeEntries
  induction fs generalizing s with
  | nil => exact h
  | cons f fs ih => exact ih (one f h)

theorem routeGone (src : Nat) (h : s.MarksBatch) : (s.routeGone src).MarksBatch := by
  have going : (s.write (Retained.startRoute s.main.contacts)).MarksBatch := h.write fun k => k.of_log rfl rfl
  exact ite (offerStatus (ite going (going.offer _))) h

theorem routeClosed (h : s.MarksBatch) : s.routeClosed.MarksBatch := by
  have closing : (s.write Retained.startClosing).MarksBatch := h.write fun k => k.of_log rfl rfl
  exact ite (offerStatus closing.clearContacts) h

theorem visitIndex (i : Nat) (h : s.MarksBatch) : (s.visitIndex i).MarksBatch := by
  unfold State.visitIndex
  split
  · exact h
  · split
    · split
      · exact h.write (Retained.MarksBatch.missHere _)
      · exact h.write fun k => k.of_log rfl rfl
    · exact h

theorem stepWalk (h : s.MarksBatch) : s.stepWalk.MarksBatch := by
  have visited := h.visitIndex s.main.walk
  exact ite h (ite (visited.write Retained.MarksBatch.endRoute).offerStatus visited)

/-! ## Supply, park and queries -/

theorem enterParked (h : s.MarksBatch) : s.enterParked.MarksBatch := by
  have flushed : s.clearContacts.flushPorts.MarksBatch := h.clearContacts
  exact flushed.endDrain

theorem parkPost (h : s.MarksBatch) : s.parkPost.MarksBatch := ite h h.enterParked

theorem ignFell (h : s.MarksBatch) : s.ignFell.MarksBatch := ite h.enterParked h

theorem enterRun (h : s.MarksBatch) : s.enterRun.MarksBatch := offerStatus (s := s.setPark .run) h

theorem runPost (h : s.MarksBatch) : s.runPost.MarksBatch := ite h.enterRun h

theorem ignRose (h : s.MarksBatch) : s.ignRose.MarksBatch := ite h.enterRun h

theorem judgeSag (h : s.MarksBatch) : s.judgeSag.MarksBatch := ite h h

theorem judgeNormal (h : s.MarksBatch) : s.judgeNormal.MarksBatch := ite h h

theorem answerCount (src : Nat) (part : Byte) (h : s.MarksBatch) : (s.answerCount src part).MarksBatch := by
  unfold State.answerCount
  split
  · exact h
  · exact h.offer _

/-! ## Resets, starts and losses of supply -/

/-- A station reset empties BATCH and returns its records to UNSENT (R178). -/
theorem stationReset (h : s.MarksBatch) : s.stationReset.MarksBatch := by
  obtain ⟨powered, -⟩ := s.stationReset_frame
  intro on
  rw [State.stationReset_main, State.stationReset_ret]
  exact (h (powered ▸ on)).returned (fun _ => rfl) fun _ => rfl

/-- A start leaves an empty BATCH and no SENT-IN-BATCH record (R162, R195). -/
theorem started (strap : Nat) (block : List Byte) (pins : Pins) (order : s.ret.LogInOrder) :
    (s.started strap block pins).MarksBatch := by
  intro _
  rw [State.started_eq]
  show s.decideCause.ret.MarksBatch []
  cases valid : s.ret.retentionValid
  · rw [State.decideCause_cold valid]
    exact .of_unsent (.cleared true) fun _ hx => absurd hx List.not_mem_nil
  · rw [State.decideCause_restored valid, State.visitLog_ret]
    exact .of_unsent (order.map _ fun _ => rfl) (List.forall_mem_map.2 fun _ _ => rfl)

theorem loseMain (cut : Nat) (h : s.MarksBatch) : (s.loseMain cut).MarksBatch := ite (fun on => Bool.noConfusion on) h

theorem loseBackup (h : s.MarksBatch) : s.loseBackup.MarksBatch := by
  intro on
  have powered : s.powered = true := on
  simpa [State.loseBackup, powered] using h powered

/-! ## The timers outside the contact table -/

theorem statusTimerExpired (h : s.MarksBatch) : s.statusTimerExpired.MarksBatch := by
  unfold State.statusTimerExpired
  split
  · exact h
  · exact (h.passTime _).offerStatus

theorem silenceExpired (n : Nat) (h : s.MarksBatch) : (s.silenceExpired n).MarksBatch := by
  unfold State.silenceExpired
  split
  · exact h
  · rename_i left _
    exact revertPeer (s := (s.passTime left).silencePeer n) n (h.passTime left)

theorem commitWaitExpired (h : s.MarksBatch) : s.commitWaitExpired.MarksBatch := by
  unfold State.commitWaitExpired
  split
  · exact h
  · exact (h.passTime _).endDrain

theorem wakeSettled (h : s.MarksBatch) : s.wakeSettled.MarksBatch := by
  unfold State.wakeSettled
  split
  · exact h
  · exact offerStatus (h.passTime _)

theorem parkReturnExpired (h : s.MarksBatch) : s.parkReturnExpired.MarksBatch := by
  unfold State.parkReturnExpired
  split
  · exact h
  · exact (h.passTime _).enterParked

/-! ## Every command and every step -/

theorem actOnKind (k : Kind) (src : Nat) (body : List Byte) (engine : s.main.drain.Sound) (h : s.MarksBatch) :
    (s.actOnKind k src body).MarksBatch := by
  cases k with
  | claim => exact h.placeClaim _ _
  | yield => exact h.placeYield _ _
  | alertAck => exact h.ackAlert _ _
  | routeBegin => exact h.routeBegun _ _
  | routeEntry => exact h.takeEntries _
  | routeGo => exact h.routeGone _
  | routeClose => exact h.routeClosed
  | park => exact h.parkPost
  | run => exact h.runPost
  | reset => exact h.stationReset
  | configQuery => exact h.offer _
  | countQuery => exact h.answerCount _ _
  | drainOpen => exact h.openDrain _ engine
  | commit => exact h.commitDrain _ _
  | drainClose => exact h.closeDrain _
  | status | alert | routeGap | configReport | countReport | record | batchEnd => exact h

theorem hearBytes (bytes : List Byte) (engine : s.main.drain.Sound) (h : s.MarksBatch) :
    (s.hearBytes bytes).MarksBatch := by
  unfold State.hearBytes
  split
  · split <;> exact h.postPasses
  · refine h.hear _ _ fun u same hu => ?_
    unfold State.actOnPost
    split
    · split
      · split
        · exact hu.actOnKind _ _ _ (same.drain ▸ engine)
        · exact hu.restartParkReturn.actOnKind _ _ _ (same.restarted.drain ▸ engine)
      · exact hu
    · exact hu

theorem exec {t : State} (i : Instr) (h : s.MarksBatch) (order : s.ret.LogInOrder) (engine : s.main.drain.Sound)
    (next : Machine.exec i s = .next t) : t.MarksBatch := by
  have begun : s.begin.MarksBatch := h
  cases i with
  | frameComplete p wait bits falls => cases next; exact (begun.passTime wait).lineStretch p bits falls
  | take p => cases next; exact begun.takeFrom p
  | idleExpiry m => cases next; exact begun.contactExpiry m _ fun _ c hu => hu.idleExpired c
  | holdOffExpiry m => cases next; exact begun.contactExpiry m _ fun _ c hu => attemptClaim _ hu
  | settleExpiry m => cases next; exact begun.contactExpiry m _ fun _ c hu => hu.settleExpired c
  | attempt quiet => cases next; exact begun.attemptAfter quiet
  | postSent => cases next; exact begun.attemptSent
  | attemptLost => cases next; exact begun.attemptFailed
  | postReceived bytes => cases next; exact begun.hearBytes bytes engine
  | claim src m q hold => cases next; exact begun.hear _ _ fun _ _ hu => hu.placeClaim m _
  | yield src m => cases next; exact begun.hear _ _ fun _ _ hu => hu.placeYield m _
  | status src role | alert src role => cases next; exact begun.hear _ _ fun _ _ hu => hu
  | alertAck src slot q => cases next; exact begun.hearAddressed _ _ fun _ _ hu => hu.ackAlert slot _
  | routeBegin src route count => cases next; exact begun.hearAddressed _ _ fun _ _ hu => hu.routeBegun _ _
  | routeEntry src fs => cases next; exact begun.hearAddressed _ _ fun _ _ hu => hu.takeEntries fs
  | routeGo src => cases next; exact begun.hearAddressed _ _ fun _ _ hu => hu.routeGone _
  | routeClose src => cases next; exact begun.hearAddressed _ _ fun _ _ hu => hu.routeClosed
  | walkStep => cases next; exact begun.stepWalk
  | park src => cases next; exact begun.hearAddressed _ _ fun _ _ hu => hu.parkPost
  | run src => cases next; exact begun.hearAddressed _ _ fun _ _ hu => hu.runPost
  | reset src role => cases next; exact begun.hearQuery _ _ fun _ hu => hu.stationReset
  | configQuery src role => cases next; exact begun.hearQuery _ _ fun _ hu => hu.offer _
  | countQuery src role part => cases next; exact begun.hearQuery _ _ fun _ hu => hu.answerCount _ part
  | drainOpen src =>
    cases next
    exact begun.hearAddressed _ _ fun _ same hu => hu.openDrain _ (same.drain ▸ engine)
  | commit src v => cases next; exact begun.hearAddressed _ _ fun _ _ hu => hu.commitDrain _ _
  | drainClose src => cases next; exact begun.hearAddressed _ _ fun _ _ hu => hu.closeDrain _
  | commitWaitExpiry => cases next; exact begun.commitWaitExpired
  | drainPostOffer =>
    cases next
    split
    · exact begun.offerDrainPost
    · exact begun
  | promotion => cases next; exact begun.promote
  | statusTimerExpiry => cases next; exact begun.statusTimerExpired
  | silence n => cases next; exact begun.silenceExpired _
  | ignFallingEdge => cases next; exact ignFell (s := s.begin.setIgn false) h
  | ignRisingEdge => cases next; exact ignRose (s := s.begin.setIgn true) h
  | wake quiet => cases next; exact begun.lineActive quiet
  | wakeSettleExpiry => cases next; exact begun.wakeSettled
  | parkReturnExpiry => cases next; exact begun.parkReturnExpired
  | enterSag mv => cases next; exact judgeSag (s := s.begin.setSense mv) h
  | returnToNormal mv => cases next; exact judgeNormal (s := s.begin.setSense mv) h
  | mainSupplyLoss cut => cases next; exact h.loseMain cut
  | startUp straps block ign mv => cases next; exact started (s := s.begin) _ block _ order
  | backupSupplyLoss =>
    cases next
    split
    · exact begun.loseBackup
    · exact begun

theorem step {t : State} (h : s.MarksBatch) (order : s.ret.LogInOrder) (engine : s.main.drain.Sound)
    (next : Machine.step s = .next t) : t.MarksBatch := by
  unfold Machine.step at next
  split at next
  · cases next
    exact passTime 1 h
  · rename_i i rest _
    exact exec (s := { s with pending := rest }) i h order engine next

end State.MarksBatch

/-- Settles O60: the marks, BATCH and the order of the log are kept together; the drain engine's own soundness is needed
for the batch of a DRAIN-OPEN in IDLE. -/
theorem sentInBatchMeansInBatch : Obligations.SentInBatchMeansInBatch := by
  unfold Obligations.SentInBatchMeansInBatch
  rintro s t ⟨⟨⟨order, -⟩, -⟩, -, -, engine, -, -, agree⟩ next
  exact ((State.marksBatch_of_sound order agree).step order engine next).batchMarksAgree

end Sys2Proof.Machine
end

section
/-! # The supply monitor: the supply state follows SENSE with its hysteresis (R182, R183) -/

namespace Sys2Proof.Machine

/-- NORMAL ends below the threshold, and SAG-SEEN is set (R182, R183). -/
theorem State.judgeSag_below {s : State} (powered : s.powered = true) (normal : s.main.supply = .normal)
    (below : s.pins.senseMv < 8000 + 500 * s.main.cfg.supplyLevel) :
    s.judgeSag = { s with main := { s.main with supply := .sag, sagSeen := true, sagInAttempt := true } } :=
  if_pos ⟨powered, normal, below⟩

theorem State.judgeSag_stays {s : State}
    (stays : s.main.supply = .sag ∨ 8000 + 500 * s.main.cfg.supplyLevel ≤ s.pins.senseMv) : s.judgeSag = s := by
  refine if_neg ?_
  rintro ⟨-, normal, below⟩
  rcases stays with sag | reached
  · simp [sag] at normal
  · exact below.not_ge reached

/-- SAG ends at the threshold plus the hysteresis (R182). -/
theorem State.judgeNormal_recovered {s : State} (powered : s.powered = true) (sag : s.main.supply = .sag)
    (recovered : 8000 + 500 * s.main.cfg.supplyLevel + 400 ≤ s.pins.senseMv) :
    s.judgeNormal = { s with main := { s.main with supply := .normal } } :=
  if_pos ⟨powered, sag, recovered⟩

theorem State.judgeNormal_stays {s : State}
    (stays : s.main.supply = .normal ∨ s.pins.senseMv < 8000 + 500 * s.main.cfg.supplyLevel + 400) :
    s.judgeNormal = s := by
  refine if_neg ?_
  rintro ⟨-, sag, recovered⟩
  rcases stays with normal | short
  · simp [normal] at sag
  · exact short.not_ge recovered

/-- Settles O43: both commands first take up the new SENSE, and then judge it by the threshold of their direction. -/
theorem supplyStateFollowsSense : Obligations.SupplyStateFollowsSense := by
  unfold Obligations.SupplyStateFollowsSense
  intro mv s powered threshold seen
  have falls : exec (.enterSag mv) s = .next seen.judgeSag := rfl
  have rises : exec (.returnToNormal mv) s = .next seen.judgeNormal := rfl
  rw [falls, rises]
  refine ⟨fun normal below => ?_, fun stays => ?_, fun sag recovered => ?_, fun stays => ?_⟩
  · rw [State.judgeSag_below (s := seen) powered normal below]
  · rw [State.judgeSag_stays (s := seen) stays]
  · rw [State.judgeNormal_recovered (s := seen) powered sag recovered]
  · rw [State.judgeNormal_stays (s := seen) stays]

end Sys2Proof.Machine
end

section
/-! # A step with a command waiting takes the front of the queue -/

namespace Sys2Proof.Machine

/-- The other branch of a step, beside the idle one of O2: the effect is `exec`'s, and the rest of the queue stays for the
steps that follow. -/
theorem step_of_pending_cons {c : Instr} {rest : List Instr} {s : State} (waiting : s.pending = c :: rest) :
    step s = exec c { s with pending := rest } := by
  rw [step, waiting]

/-- Settles O1: the state of the statement has `c` at the front of its queue, whatever queue `s` had. -/
theorem stepTakesFrontCommand : Obligations.StepTakesFrontCommand := by
  unfold Obligations.StepTakesFrontCommand
  intro c rest s
  exact step_of_pending_cons (s := { s with pending := c :: rest }) rfl

end Sys2Proof.Machine
end
